-- ==== Sys2Proof/Word.lean ====
section
/-! DEFINITION. The words of the machine: bytes, 16-bit words and the 2-bit shades of the screen (00_scope.md R7, 10_state.md R72). -/

namespace Sys2Proof

/-- A u8 value (R9). -/
abbrev Byte := BitVec 8

/-- A u16 value: an address, a register pair, SP or PC (R7, R9). -/
abbrev Word := BitVec 16

/-- A 2-bit colour or shade (10_state.md R72). -/
abbrev Shade := BitVec 2

end Sys2Proof
end

