-- ==== Sys2Proof/Config.lean ====
section
/-! DEFINITION. The free values of the spec. Each is a constant without a body: nothing in Lean can evaluate it or prove a value of it, so a statement that holds, holds for every value. The parameters of 00_scope.md R8 that have a default (boot_profile, halt_bug, div_period_ds, rtc_model) are data in State, see Machine/State.lean. -/

namespace Sys2Proof

/-- `initial_memory` (00_scope.md R8, decision D6): the byte a location holds at power-on, for each
location key of Machine/State.lean's memory. DESIGN CHOICE of form, log entry 2; safe. -/
opaque Config.initialMemory (location : Nat) : Byte

/-- `unusable_read` (20_memory.md R111, decision D14): the byte a read of 0xFEA0 to 0xFEFF gives,
for each step number and address. Log entry 3. -/
opaque Config.unusableRead (tick : Nat) (address : Nat) : Byte

/-- The byte an MBC3 clock register reads as when `rtc_model` is `draw` (20_memory.md R125, decision
D36), for each step number and clock register. Log entry 14. -/
opaque Config.rtcRead (tick : Nat) (select : Nat) : Byte

end Sys2Proof
end

