-- ==== Sys2Proof/Machine/State.lean ====
section
/-! DEFINITION. The state of the machine as plain data, the reasons it can stop, and the state after reset. Each field cites the rule of spec/ that names it. -/

namespace Sys2Proof.Machine

/-- Why the machine stops with a fault (60_exceptions.md R430, 20_memory.md R109). -/
inductive Fault where
  /-- The fatal fault of an undefined opcode (45_system.md R407, 60_exceptions.md R430), with the
  opcode byte. Raised by the eleven `execIllegal…` meanings, and by `step` of a machine that has
  already faulted. Safe: it is the spec's own outcome. -/
  | undefinedOpcode (op : Byte)
  /-- A logic-invariant fault (20_memory.md R109). Raised by `fetchAndExecute` where the decoder
  would reject the three bytes fetched, which no bytes do (30_encoding.md R191: the decode is total).
  Safe: unreachable. -/
  | logicInvariant
  deriving DecidableEq, Repr

/-- Why the model gives a run no meaning (00_scope.md R12, 60_exceptions.md R433). -/
inductive Refusal where
  /-- An instruction that has no meaning yet; answered by `exec`'s arms only. Safe. -/
  | notModelled (mnemonic : String)
  /-- STOP outside a speed switch (45_system.md R404). Raised by `execStop`. Safe. -/
  | stopUnmodelled
  /-- A cartridge type outside the table of 20_memory.md R150. Raised by `construct`. Safe. -/
  | unsupportedCartridge
  /-- A ROM size code outside 0x00 to 0x08 (20_memory.md R151). Raised by `construct`. Safe. -/
  | unsupportedRomSize
  /-- A RAM size code above 0x05 (20_memory.md R151). Raised by `construct`. Safe. -/
  | unsupportedRamSize
  /-- An image of the wrong length (70_reset_and_hazards.md R524). Raised by `construct`. Safe. -/
  | romSizeMismatch
  deriving DecidableEq, Repr

/-- What an instruction or a step answers. -/
abbrev Answer (σ : Type) := Host.Outcome σ Fault Refusal

/-- The four flag bits of F (10_state.md R32). -/
structure Flags where
  z : Bool
  n : Bool
  h : Bool
  c : Bool
  deriving DecidableEq, Repr

/-- The register file (10_state.md R30 to R35). The pairs are views of the halves (R31). -/
structure Regs where
  a : Byte
  b : Byte
  c : Byte
  d : Byte
  e : Byte
  h : Byte
  l : Byte
  flags : Flags
  sp : Word
  pc : Word
  deriving DecidableEq, Repr

/-- The CPU control latches (10_state.md R36 to R40). -/
structure Latches where
  ime : Bool
  imePending : Bool
  halted : Bool
  haltBug : Bool
  ds : Bool
  deriving DecidableEq, Repr

/-- IE and IF (10_state.md R50, R51). -/
structure Irq where
  ie : Byte
  ifr : Byte
  deriving DecidableEq, Repr

/-- The LCD's CPU-written registers (10_state.md R53 to R60). `statEn` is STAT's bits 6 to 3:
its bit 0 enables HBlank, bit 1 VBlank, bit 2 OAMScan, bit 3 LY=LYC. -/
structure LcdRegs where
  lcdc : Byte
  statEn : BitVec 4
  scy : Byte
  scx : Byte
  lyc : Byte
  dma : Byte
  bgp : Byte
  obp0 : Byte
  obp1 : Byte
  wy : Byte
  wx : Byte
  deriving DecidableEq, Repr

/-- The four PPU modes (10_state.md R71). -/
inductive PpuMode where
  | hblank
  | vblank
  | oamScan
  | vramAccess
  deriving DecidableEq, Repr

/-- The PPU's hidden state and the frame buffer, row by row (10_state.md R71, R72). -/
structure Ppu where
  mode : PpuMode
  ly : Byte
  dot : Nat
  winLine : Byte
  wyTrig : Bool
  coinc : Bool
  frame : List (List Shade)
  deriving DecidableEq, Repr

/-- The timer registers and their accumulators (10_state.md R61 to R64, R70). -/
structure Timer where
  div : Byte
  tima : Byte
  tma : Byte
  tac : Byte
  divAcc : Nat
  timaAcc : Nat
  deriving DecidableEq, Repr

/-- The host's eight button states, true when pressed (00_scope.md R8, 20_memory.md R143). -/
structure Buttons where
  right : Bool
  left : Bool
  up : Bool
  down : Bool
  btnA : Bool
  btnB : Bool
  select : Bool
  start : Bool
  deriving DecidableEq, Repr

/-- The joypad register: the select bits, the cached low nibble, and the host's buttons
(10_state.md R65, R74). -/
structure Joypad where
  sel : BitVec 2
  low : BitVec 4
  buttons : Buttons
  deriving DecidableEq, Repr

/-- The serial registers (10_state.md R66). -/
structure Serial where
  sb : Byte
  sc : Byte
  deriving DecidableEq, Repr

/-- Mapper 3's five clock registers (20_memory.md R125). -/
structure Rtc where
  seconds : Byte
  minutes : Byte
  hours : Byte
  dayLow : Byte
  dayHigh : Byte
  deriving DecidableEq, Repr

/-- The cartridge parameters read from the image's header (00_scope.md R8, 20_memory.md R150, R151)
and the cartridge controller's state (10_state.md R73). `ram2K` is RAM size code 0x01, one bank of
2 KiB. -/
structure Cart where
  cartType : Byte
  romBanks : Nat
  ramBanks : Nat
  ram2K : Bool
  romBank : Nat
  ramBank : Nat
  ramEn : Bool
  bankMode : Bool
  bankLo : BitVec 5
  bankHi : BitVec 2
  romLo : Byte
  romHi : BitVec 1
  rtc : Rtc
  rumble : Bool
  deriving DecidableEq, Repr

/-- The coordinator's frame counter and its frame-ready output (10_state.md R75, 60_exceptions.md
R506). -/
structure Coord where
  frameAcc : Nat
  frameReady : Bool
  deriving DecidableEq, Repr

/-- Which post-boot register values reset uses (00_scope.md R8). -/
inductive BootProfile where
  | dmg
  | cgb
  deriving DecidableEq, Repr

/-- How MBC3's clock registers behave (00_scope.md R8). -/
inductive RtcModel where
  | shadow
  | draw
  deriving DecidableEq, Repr

/-- The parameters of 00_scope.md R8 that are fixed for a run. Kept as data so that a statement about
every state holds for every choice of them. Log entry 4. -/
structure Params where
  bootProfile : BootProfile
  haltBug : Bool
  divPeriodDs : Nat
  rtcModel : RtcModel
  deriving DecidableEq, Repr

/-- What the last step hands outside: its cycle count (30_encoding.md R190, 60_exceptions.md R505)
and its writes to the audio registers, oldest first (R505). Log entry 9. -/
structure Outputs where
  cycles : Nat
  apuWrites : List (Word × Byte)
  deriving DecidableEq, Repr

/-- A byte array with few listed bytes: (key, byte) pairs in rising order of key. -/
abbrev Memory := List Host.Cell

/-- The whole state of the machine.

`mem` holds every memory array of 10_state.md R76 but the ROM image, and the I/O bytes no other field
holds. Its keys: VRAM, WRAM0, WRAM1, OAM, the I/O bytes and HRAM at their own CPU address (0x8000 to
0xFF7F, 0xFF80 to 0xFFFE); external RAM at 0x10000 + its offset. An unlisted byte has not been
written since reset and reads as its initial_memory draw (log entry 2).

`rom` holds the ROM image at its own offsets; an unlisted byte reads 0x00 (log entry 1).

`tick` is the model's own: the number of steps begun, which free values are applied to (log
entry 16). -/
structure State where
  regs : Regs
  latch : Latches
  irq : Irq
  lcd : LcdRegs
  ppu : Ppu
  timer : Timer
  pad : Joypad
  serial : Serial
  key1 : Byte
  cart : Cart
  coord : Coord
  params : Params
  mem : Memory
  rom : Memory
  out : Outputs
  fault : Option Fault
  refused : Option Refusal
  tick : Nat
  deriving DecidableEq, Repr

/-- The spec's default parameters (00_scope.md R8, decisions D4, D9, D22, D36). -/
def Params.default : Params :=
  { bootProfile := .dmg, haltBug := true, divPeriodDs := 128, rtcModel := .shadow }

/-- No button pressed. DESIGN CHOICE, log entry 6. -/
def Buttons.released : Buttons :=
  { right := false, left := false, up := false, down := false, btnA := false, btnB := false,
    select := false, start := false }

/-- A cartridge controller right after load, for the header's values (20_memory.md R152). -/
def Cart.afterLoad (cartType : Byte) (romBanks ramBanks : Nat) (ram2K : Bool) : Cart :=
  { cartType := cartType, romBanks := romBanks, ramBanks := ramBanks, ram2K := ram2K
    romBank := 1, ramBank := 0, ramEn := false, bankMode := false, bankLo := 1, bankHi := 0
    romLo := 1, romHi := 0
    rtc := { seconds := 0, minutes := 0, hours := 0, dayLow := 0, dayHigh := 0 }, rumble := false }

/-- The register file after reset for each boot profile (10_state.md R78). -/
def Regs.afterReset : BootProfile → Regs
  | .dmg =>
    { a := 0x01, b := 0x00, c := 0x13, d := 0x00, e := 0xD8, h := 0x01, l := 0x4D
      flags := { z := true, n := false, h := true, c := true }, sp := 0xFFFE, pc := 0x0100 }
  | .cgb =>
    { a := 0x11, b := 0x00, c := 0x00, d := 0xFF, e := 0x56, h := 0x00, l := 0x0D
      flags := { z := true, n := false, h := false, c := false }, sp := 0xFFFE, pc := 0x0100 }

/-- The state after reset (10_state.md R78, 70_reset_and_hazards.md R520) of a machine with the given
parameters, cartridge and ROM image. -/
def State.afterReset (p : Params) (cart : Cart) (rom : Memory) : State where
  regs := Regs.afterReset p.bootProfile
  latch := { ime := false, imePending := false, halted := false, haltBug := false, ds := false }
  irq := { ie := 0x00, ifr := 0xE1 }
  lcd :=
    { lcdc := 0x91, statEn := 0, scy := 0x00, scx := 0x00, lyc := 0x00, dma := 0xFF, bgp := 0xFC
      obp0 := 0xFF, obp1 := 0xFF, wy := 0x00, wx := 0x00 }
  ppu :=
    { mode := .oamScan, ly := 0, dot := 0, winLine := 0, wyTrig := false, coinc := true
      frame := List.replicate 144 (List.replicate 160 0) }
  timer := { div := 0xAB, tima := 0x00, tma := 0x00, tac := 0xF8, divAcc := 0, timaAcc := 0 }
  pad := { sel := 0, low := 0xF, buttons := Buttons.released }
  serial := { sb := 0x00, sc := 0x7E }
  key1 := 0x00
  cart := cart
  coord := { frameAcc := 0, frameReady := false }
  params := p
  mem := []
  rom := rom
  out := { cycles := 0, apuWrites := [] }
  fault := none
  refused := none
  tick := 0

/-- The machine right after reset: the default parameters and a blank 32 KiB image, all bytes 0x00,
whose header (0x0147 to 0x0149 all 0x00) selects mapper 0, two ROM banks and no RAM. The image is
given per run (00_scope.md R8): DESIGN CHOICE, log entry 1; `construct` in Machine/Construct.lean
takes any image. -/
def State.reset : State :=
  State.afterReset Params.default (Cart.afterLoad 0x00 2 0 false) []

end Sys2Proof.Machine
end

