-- ==== Sys2Proof/Machine/Flags.lean ====
section
/-! DEFINITION. Every result and flag computation, as pure functions of register values (41_alu8.md, 42_alu16.md, 43_rotate_bit.md). -/

namespace Sys2Proof.Machine

/-- The F byte of the four flags (10_state.md R32). -/
def Flags.toByte (f : Flags) : Byte :=
  ((BitVec.ofBool f.z ++ BitVec.ofBool f.n) ++ (BitVec.ofBool f.h ++ BitVec.ofBool f.c)) ++ 0#4

/-- The flags of a byte written to F; its low nibble is dropped (10_state.md R32, 40_load.md R244). -/
def Flags.ofByte (v : Byte) : Flags :=
  { z := v.getLsbD 7, n := v.getLsbD 6, h := v.getLsbD 5, c := v.getLsbD 4 }

/-- `add8(a, b, c)` (41_alu8.md R261). -/
def add8 (a b : Byte) (c : Bool) : Byte × Flags :=
  let sum := a.toNat + b.toNat + c.toNat
  let res := BitVec.ofNat 8 sum
  (res,
    { z := res == 0, n := false
      h := decide (a.toNat % 16 + b.toNat % 16 + c.toNat > 0xF), c := decide (sum > 0xFF) })

/-- `sub8(a, b, c)` (41_alu8.md R262). -/
def sub8 (a b : Byte) (c : Bool) : Byte × Flags :=
  let res := a - b - BitVec.ofNat 8 c.toNat
  (res,
    { z := res == 0, n := true
      h := decide (a.toNat % 16 < b.toNat % 16 + c.toNat)
      c := decide (a.toNat < b.toNat + c.toNat) })

/-- A logic result with its flags: H is 1 for AND only (41_alu8.md R263). -/
def logic8 (res : Byte) (h : Bool) : Byte × Flags :=
  (res, { z := res == 0, n := false, h := h, c := false })

/-- The eight ALU operations, in the order of the field `a` (30_encoding.md R181, R187). -/
inductive AluOp where
  | add | adc | sub | sbc | and | xor | or | cp
  deriving DecidableEq, Repr

/-- The value written to A and the flags of an ALU operation on A, an operand and the carry flag
(41_alu8.md R264 to R287). CP writes A back unchanged. -/
def AluOp.apply (op : AluOp) (a v : Byte) (c : Bool) : Byte × Flags :=
  match op with
  | .add => add8 a v false
  | .adc => add8 a v c
  | .sub => sub8 a v false
  | .sbc => sub8 a v c
  | .and => logic8 (a &&& v) true
  | .xor => logic8 (a ^^^ v) false
  | .or => logic8 (a ||| v) false
  | .cp => (a, (sub8 a v false).2)

/-- The flags of an increment of the byte `v`; C unchanged (41_alu8.md R288). -/
def incFlags (v : Byte) (f : Flags) : Flags :=
  { f with z := v + 1 == 0, n := false, h := decide (v.toNat % 16 = 0xF) }

/-- The flags of a decrement of the byte `v`; C unchanged (41_alu8.md R290). -/
def decFlags (v : Byte) (f : Flags) : Flags :=
  { f with z := v - 1 == 0, n := true, h := decide (v.toNat % 16 = 0) }

/-- DAA's result and flags (41_alu8.md R292). -/
def daa8 (a : Byte) (f : Flags) : Byte × Flags :=
  let high := f.c || (!f.n && decide (a.toNat > 0x99))
  let low := f.h || (!f.n && decide (a.toNat % 16 > 0x09))
  let fix : Byte := (if high then 0x60 else 0) + (if low then 0x06 else 0)
  let res := if f.n then a - fix else a + fix
  (res, { z := res == 0, n := f.n, h := false, c := high })

/-- `sext_16` (00_scope.md R9). -/
def sext16 (v : Byte) : Word := v.signExtend 16

/-- `zext_16` (00_scope.md R9). -/
def zext16 (v : Byte) : Word := v.setWidth 16

/-- `spadd(sp, n)` (42_alu16.md R320). -/
def spAdd (sp : Word) (n : Byte) : Word × Flags :=
  (sp + sext16 n,
    { z := false, n := false
      h := decide (sp.toNat % 16 + n.toNat % 16 > 0x0F)
      c := decide (sp.toNat % 256 + n.toNat > 0xFF) })

/-- ADD HL,rr's result and flags; Z unchanged (42_alu16.md R321). -/
def addHl16 (a b : Word) (f : Flags) : Word × Flags :=
  (a + b,
    { f with
      n := false
      h := decide (a.toNat % 4096 + b.toNat % 4096 > 0x0FFF)
      c := decide (a.toNat + b.toNat > 0xFFFF) })

/-- The eight rotates and shifts, in the order of `cbop[5:3]` (30_encoding.md R182). -/
inductive RotOp where
  | rlc | rrc | rl | rr | sla | sra | swap | srl
  deriving DecidableEq, Repr

/-- `rot(k, v, cin)`: the result and the bit shifted out (43_rotate_bit.md R340). -/
def rot (k : RotOp) (v : Byte) (cin : Bool) : Byte × Bool :=
  let cinByte : Byte := BitVec.ofNat 8 cin.toNat
  match k with
  | .rlc => (v <<< 1 ||| v >>> 7, v.getLsbD 7)
  | .rrc => (v >>> 1 ||| v <<< 7, v.getLsbD 0)
  | .rl => (v <<< 1 ||| cinByte, v.getLsbD 7)
  | .rr => (v >>> 1 ||| cinByte <<< 7, v.getLsbD 0)
  | .sla => (v <<< 1, v.getLsbD 7)
  | .sra => (v >>> 1 ||| (v &&& 0x80), v.getLsbD 0)
  | .swap => (v <<< 4 ||| v >>> 4, false)
  | .srl => (v >>> 1, v.getLsbD 0)

/-- The flags of a CB rotate or shift (43_rotate_bit.md R340). -/
def rotFlags (res : Byte) (cout : Bool) : Flags :=
  { z := res == 0, n := false, h := false, c := cout }

/-- The flags of an accumulator rotate: Z is 0 (43_rotate_bit.md R341). -/
def accRotFlags (cout : Bool) : Flags := { z := false, n := false, h := false, c := cout }

/-- The flags of BIT on the byte `v`; C unchanged (43_rotate_bit.md R361). -/
def bitFlags (v : Byte) (b : Nat) (f : Flags) : Flags :=
  { f with z := !v.getLsbD b, n := false, h := true }

/-- A byte with bit `b` cleared (43_rotate_bit.md R363). -/
def clearBit (v : Byte) (b : Nat) : Byte := v &&& ~~~(1#8 <<< b)

/-- A byte with bit `b` set (43_rotate_bit.md R365). -/
def setBit (v : Byte) (b : Nat) : Byte := v ||| 1#8 <<< b

end Sys2Proof.Machine
end

