-- ==== Sys2Proof/Syntax.lean ====
section
/-! DEFINITION. The instructions: one constructor for each row of spec/opcode_table.json (30_encoding.md R187, R188), those with operand bytes first and the others after them, each group in the table's order, each with its row's mnemonic and the rule that gives its meaning. "Ind" names a memory operand in parentheses. Arguments are the operand bytes: d8, a8, e8 (raw byte), d16, a16 (30_encoding.md R183). -/

namespace Sys2Proof

inductive Instr where
  /-- LD BC,d16 (R240). -/
  | ldBCD16 (d16 : Word)
  /-- LD B,d8 (R224). -/
  | ldBD8 (d8 : Byte)
  /-- LD (a16),SP (R241). -/
  | ldIndA16SP (a16 : Word)
  /-- LD C,d8 (R224). -/
  | ldCD8 (d8 : Byte)
  /-- STOP (R404). The second byte is read and ignored. -/
  | stop (ignored : Byte)
  /-- LD DE,d16 (R240). -/
  | ldDED16 (d16 : Word)
  /-- LD D,d8 (R224). -/
  | ldDD8 (d8 : Byte)
  /-- JR e8 (R384). -/
  | jrE8 (e8 : Byte)
  /-- LD E,d8 (R224). -/
  | ldED8 (d8 : Byte)
  /-- JR NZ,e8 (R385). -/
  | jrNZE8 (e8 : Byte)
  /-- LD HL,d16 (R240). -/
  | ldHLD16 (d16 : Word)
  /-- LD H,d8 (R224). -/
  | ldHD8 (d8 : Byte)
  /-- JR Z,e8 (R385). -/
  | jrZE8 (e8 : Byte)
  /-- LD L,d8 (R224). -/
  | ldLD8 (d8 : Byte)
  /-- JR NC,e8 (R385). -/
  | jrNCE8 (e8 : Byte)
  /-- LD SP,d16 (R240). -/
  | ldSPD16 (d16 : Word)
  /-- LD (HL),d8 (R225). -/
  | ldIndHLD8 (d8 : Byte)
  /-- JR C,e8 (R385). -/
  | jrCE8 (e8 : Byte)
  /-- LD A,d8 (R224). -/
  | ldAD8 (d8 : Byte)
  /-- JP NZ,a16 (R382). -/
  | jpNZA16 (a16 : Word)
  /-- JP a16 (R381). -/
  | jpA16 (a16 : Word)
  /-- CALL NZ,a16 (R387). -/
  | callNZA16 (a16 : Word)
  /-- ADD A,d8 (R266). -/
  | addAD8 (d8 : Byte)
  /-- JP Z,a16 (R382). -/
  | jpZA16 (a16 : Word)
  /-- PREFIX CB (R406). Not an instruction of its own: the second byte selects a CB row, so the decoder never gives it (log entry 12). -/
  | cbPrefix (cbop : Byte)
  /-- CALL Z,a16 (R387). -/
  | callZA16 (a16 : Word)
  /-- CALL a16 (R386). -/
  | callA16 (a16 : Word)
  /-- ADC A,d8 (R269). -/
  | adcAD8 (d8 : Byte)
  /-- JP NC,a16 (R382). -/
  | jpNCA16 (a16 : Word)
  /-- CALL NC,a16 (R387). -/
  | callNCA16 (a16 : Word)
  /-- SUB d8 (R272). -/
  | subD8 (d8 : Byte)
  /-- JP C,a16 (R382). -/
  | jpCA16 (a16 : Word)
  /-- CALL C,a16 (R387). -/
  | callCA16 (a16 : Word)
  /-- SBC A,d8 (R275). -/
  | sbcAD8 (d8 : Byte)
  /-- LDH (a8),A (R237). -/
  | ldhIndA8A (a8 : Byte)
  /-- AND d8 (R278). -/
  | andD8 (d8 : Byte)
  /-- ADD SP,e8 (R324). -/
  | addSPE8 (e8 : Byte)
  /-- LD (a16),A (R235). -/
  | ldIndA16A (a16 : Word)
  /-- XOR d8 (R281). -/
  | xorD8 (d8 : Byte)
  /-- LDH A,(a8) (R236). -/
  | ldhAIndA8 (a8 : Byte)
  /-- OR d8 (R284). -/
  | orD8 (d8 : Byte)
  /-- LD HL,SP+e8 (R325). -/
  | ldHLSPE8 (e8 : Byte)
  /-- LD A,(a16) (R234). -/
  | ldAIndA16 (a16 : Word)
  /-- CP d8 (R287). -/
  | cpD8 (d8 : Byte)
  /-- NOP (R400). -/
  | nop
  /-- LD (BC),A (R228). -/
  | ldIndBCA
  /-- INC BC (R322). -/
  | incBC
  /-- INC B (R288). -/
  | incB
  /-- DEC B (R290). -/
  | decB
  /-- RLCA (R341). -/
  | rlca
  /-- ADD HL,BC (R321). -/
  | addHLBC
  /-- LD A,(BC) (R226). -/
  | ldAIndBC
  /-- DEC BC (R323). -/
  | decBC
  /-- INC C (R288). -/
  | incC
  /-- DEC C (R290). -/
  | decC
  /-- RRCA (R342). -/
  | rrca
  /-- LD (DE),A (R229). -/
  | ldIndDEA
  /-- INC DE (R322). -/
  | incDE
  /-- INC D (R288). -/
  | incD
  /-- DEC D (R290). -/
  | decD
  /-- RLA (R343). -/
  | rla
  /-- ADD HL,DE (R321). -/
  | addHLDE
  /-- LD A,(DE) (R227). -/
  | ldAIndDE
  /-- DEC DE (R323). -/
  | decDE
  /-- INC E (R288). -/
  | incE
  /-- DEC E (R290). -/
  | decE
  /-- RRA (R344). -/
  | rra
  /-- LD (HL+),A (R232). -/
  | ldIndHLIncA
  /-- INC HL (R322). -/
  | incHL
  /-- INC H (R288). -/
  | incH
  /-- DEC H (R290). -/
  | decH
  /-- DAA (R292). -/
  | daa
  /-- ADD HL,HL (R321). -/
  | addHLHL
  /-- LD A,(HL+) (R230). -/
  | ldAIndHLInc
  /-- DEC HL (R323). -/
  | decHL
  /-- INC L (R288). -/
  | incL
  /-- DEC L (R290). -/
  | decL
  /-- CPL (R293). -/
  | cpl
  /-- LD (HL-),A (R233). -/
  | ldIndHLDecA
  /-- INC SP (R322). -/
  | incSP
  /-- INC (HL) (R289). -/
  | incIndHL
  /-- DEC (HL) (R291). -/
  | decIndHL
  /-- SCF (R294). -/
  | scf
  /-- ADD HL,SP (R321). -/
  | addHLSP
  /-- LD A,(HL-) (R231). -/
  | ldAIndHLDec
  /-- DEC SP (R323). -/
  | decSP
  /-- INC A (R288). -/
  | incA
  /-- DEC A (R290). -/
  | decA
  /-- CCF (R295). -/
  | ccf
  /-- LD B,B (R221). -/
  | ldBB
  /-- LD B,C (R221). -/
  | ldBC
  /-- LD B,D (R221). -/
  | ldBD
  /-- LD B,E (R221). -/
  | ldBE
  /-- LD B,H (R221). -/
  | ldBH
  /-- LD B,L (R221). -/
  | ldBL
  /-- LD B,(HL) (R222). -/
  | ldBIndHL
  /-- LD B,A (R221). -/
  | ldBA
  /-- LD C,B (R221). -/
  | ldCB
  /-- LD C,C (R221). -/
  | ldCC
  /-- LD C,D (R221). -/
  | ldCD
  /-- LD C,E (R221). -/
  | ldCE
  /-- LD C,H (R221). -/
  | ldCH
  /-- LD C,L (R221). -/
  | ldCL
  /-- LD C,(HL) (R222). -/
  | ldCIndHL
  /-- LD C,A (R221). -/
  | ldCA
  /-- LD D,B (R221). -/
  | ldDB
  /-- LD D,C (R221). -/
  | ldDC
  /-- LD D,D (R221). -/
  | ldDD
  /-- LD D,E (R221). -/
  | ldDE
  /-- LD D,H (R221). -/
  | ldDH
  /-- LD D,L (R221). -/
  | ldDL
  /-- LD D,(HL) (R222). -/
  | ldDIndHL
  /-- LD D,A (R221). -/
  | ldDA
  /-- LD E,B (R221). -/
  | ldEB
  /-- LD E,C (R221). -/
  | ldEC
  /-- LD E,D (R221). -/
  | ldED
  /-- LD E,E (R221). -/
  | ldEE
  /-- LD E,H (R221). -/
  | ldEH
  /-- LD E,L (R221). -/
  | ldEL
  /-- LD E,(HL) (R222). -/
  | ldEIndHL
  /-- LD E,A (R221). -/
  | ldEA
  /-- LD H,B (R221). -/
  | ldHB
  /-- LD H,C (R221). -/
  | ldHC
  /-- LD H,D (R221). -/
  | ldHD
  /-- LD H,E (R221). -/
  | ldHE
  /-- LD H,H (R221). -/
  | ldHH
  /-- LD H,L (R221). -/
  | ldHL
  /-- LD H,(HL) (R222). -/
  | ldHIndHL
  /-- LD H,A (R221). -/
  | ldHA
  /-- LD L,B (R221). -/
  | ldLB
  /-- LD L,C (R221). -/
  | ldLC
  /-- LD L,D (R221). -/
  | ldLD
  /-- LD L,E (R221). -/
  | ldLE
  /-- LD L,H (R221). -/
  | ldLH
  /-- LD L,L (R221). -/
  | ldLL
  /-- LD L,(HL) (R222). -/
  | ldLIndHL
  /-- LD L,A (R221). -/
  | ldLA
  /-- LD (HL),B (R223). -/
  | ldIndHLB
  /-- LD (HL),C (R223). -/
  | ldIndHLC
  /-- LD (HL),D (R223). -/
  | ldIndHLD
  /-- LD (HL),E (R223). -/
  | ldIndHLE
  /-- LD (HL),H (R223). -/
  | ldIndHLH
  /-- LD (HL),L (R223). -/
  | ldIndHLL
  /-- HALT (R402). -/
  | halt
  /-- LD (HL),A (R223). -/
  | ldIndHLA
  /-- LD A,B (R221). -/
  | ldAB
  /-- LD A,C (R221). -/
  | ldAC
  /-- LD A,D (R221). -/
  | ldAD
  /-- LD A,E (R221). -/
  | ldAE
  /-- LD A,H (R221). -/
  | ldAH
  /-- LD A,L (R221). -/
  | ldAL
  /-- LD A,(HL) (R222). -/
  | ldAIndHL
  /-- LD A,A (R221). -/
  | ldAA
  /-- ADD A,B (R264). -/
  | addAB
  /-- ADD A,C (R264). -/
  | addAC
  /-- ADD A,D (R264). -/
  | addAD
  /-- ADD A,E (R264). -/
  | addAE
  /-- ADD A,H (R264). -/
  | addAH
  /-- ADD A,L (R264). -/
  | addAL
  /-- ADD A,(HL) (R265). -/
  | addAIndHL
  /-- ADD A,A (R264). -/
  | addAA
  /-- ADC A,B (R267). -/
  | adcAB
  /-- ADC A,C (R267). -/
  | adcAC
  /-- ADC A,D (R267). -/
  | adcAD
  /-- ADC A,E (R267). -/
  | adcAE
  /-- ADC A,H (R267). -/
  | adcAH
  /-- ADC A,L (R267). -/
  | adcAL
  /-- ADC A,(HL) (R268). -/
  | adcAIndHL
  /-- ADC A,A (R267). -/
  | adcAA
  /-- SUB B (R270). -/
  | subB
  /-- SUB C (R270). -/
  | subC
  /-- SUB D (R270). -/
  | subD
  /-- SUB E (R270). -/
  | subE
  /-- SUB H (R270). -/
  | subH
  /-- SUB L (R270). -/
  | subL
  /-- SUB (HL) (R271). -/
  | subIndHL
  /-- SUB A (R270). -/
  | subA
  /-- SBC A,B (R273). -/
  | sbcAB
  /-- SBC A,C (R273). -/
  | sbcAC
  /-- SBC A,D (R273). -/
  | sbcAD
  /-- SBC A,E (R273). -/
  | sbcAE
  /-- SBC A,H (R273). -/
  | sbcAH
  /-- SBC A,L (R273). -/
  | sbcAL
  /-- SBC A,(HL) (R274). -/
  | sbcAIndHL
  /-- SBC A,A (R273). -/
  | sbcAA
  /-- AND B (R276). -/
  | andB
  /-- AND C (R276). -/
  | andC
  /-- AND D (R276). -/
  | andD
  /-- AND E (R276). -/
  | andE
  /-- AND H (R276). -/
  | andH
  /-- AND L (R276). -/
  | andL
  /-- AND (HL) (R277). -/
  | andIndHL
  /-- AND A (R276). -/
  | andA
  /-- XOR B (R279). -/
  | xorB
  /-- XOR C (R279). -/
  | xorC
  /-- XOR D (R279). -/
  | xorD
  /-- XOR E (R279). -/
  | xorE
  /-- XOR H (R279). -/
  | xorH
  /-- XOR L (R279). -/
  | xorL
  /-- XOR (HL) (R280). -/
  | xorIndHL
  /-- XOR A (R279). -/
  | xorA
  /-- OR B (R282). -/
  | orB
  /-- OR C (R282). -/
  | orC
  /-- OR D (R282). -/
  | orD
  /-- OR E (R282). -/
  | orE
  /-- OR H (R282). -/
  | orH
  /-- OR L (R282). -/
  | orL
  /-- OR (HL) (R283). -/
  | orIndHL
  /-- OR A (R282). -/
  | orA
  /-- CP B (R285). -/
  | cpB
  /-- CP C (R285). -/
  | cpC
  /-- CP D (R285). -/
  | cpD
  /-- CP E (R285). -/
  | cpE
  /-- CP H (R285). -/
  | cpH
  /-- CP L (R285). -/
  | cpL
  /-- CP (HL) (R286). -/
  | cpIndHL
  /-- CP A (R285). -/
  | cpA
  /-- RET NZ (R389). -/
  | retNZ
  /-- POP BC (R244). -/
  | popBC
  /-- PUSH BC (R243). -/
  | pushBC
  /-- RST 00H (R391). -/
  | rst00
  /-- RET Z (R389). -/
  | retZ
  /-- RET (R388). -/
  | ret
  /-- RST 08H (R391). -/
  | rst08
  /-- RET NC (R389). -/
  | retNC
  /-- POP DE (R244). -/
  | popDE
  /-- ILLEGAL_D3 (R407). -/
  | illegalD3
  /-- PUSH DE (R243). -/
  | pushDE
  /-- RST 10H (R391). -/
  | rst10
  /-- RET C (R389). -/
  | retC
  /-- RETI (R390). -/
  | reti
  /-- ILLEGAL_DB (R407). -/
  | illegalDB
  /-- ILLEGAL_DD (R407). -/
  | illegalDD
  /-- RST 18H (R391). -/
  | rst18
  /-- POP HL (R244). -/
  | popHL
  /-- LDH (C),A (R239). -/
  | ldhIndCA
  /-- ILLEGAL_E3 (R407). -/
  | illegalE3
  /-- ILLEGAL_E4 (R407). -/
  | illegalE4
  /-- PUSH HL (R243). -/
  | pushHL
  /-- RST 20H (R391). -/
  | rst20
  /-- JP HL (R383). -/
  | jpHL
  /-- ILLEGAL_EB (R407). -/
  | illegalEB
  /-- ILLEGAL_EC (R407). -/
  | illegalEC
  /-- ILLEGAL_ED (R407). -/
  | illegalED
  /-- RST 28H (R391). -/
  | rst28
  /-- POP AF (R244). -/
  | popAF
  /-- LDH A,(C) (R238). -/
  | ldhAIndC
  /-- DI (R401). -/
  | di
  /-- ILLEGAL_F4 (R407). -/
  | illegalF4
  /-- PUSH AF (R243). -/
  | pushAF
  /-- RST 30H (R391). -/
  | rst30
  /-- LD SP,HL (R242). -/
  | ldSPHL
  /-- EI (R405). -/
  | ei
  /-- ILLEGAL_FC (R407). -/
  | illegalFC
  /-- ILLEGAL_FD (R407). -/
  | illegalFD
  /-- RST 38H (R391). -/
  | rst38
  /-- RLC B (R345). -/
  | rlcB
  /-- RLC C (R345). -/
  | rlcC
  /-- RLC D (R345). -/
  | rlcD
  /-- RLC E (R345). -/
  | rlcE
  /-- RLC H (R345). -/
  | rlcH
  /-- RLC L (R345). -/
  | rlcL
  /-- RLC (HL) (R346). -/
  | rlcIndHL
  /-- RLC A (R345). -/
  | rlcA
  /-- RRC B (R347). -/
  | rrcB
  /-- RRC C (R347). -/
  | rrcC
  /-- RRC D (R347). -/
  | rrcD
  /-- RRC E (R347). -/
  | rrcE
  /-- RRC H (R347). -/
  | rrcH
  /-- RRC L (R347). -/
  | rrcL
  /-- RRC (HL) (R348). -/
  | rrcIndHL
  /-- RRC A (R347). -/
  | rrcA
  /-- RL B (R349). -/
  | rlB
  /-- RL C (R349). -/
  | rlC
  /-- RL D (R349). -/
  | rlD
  /-- RL E (R349). -/
  | rlE
  /-- RL H (R349). -/
  | rlH
  /-- RL L (R349). -/
  | rlL
  /-- RL (HL) (R350). -/
  | rlIndHL
  /-- RL A (R349). -/
  | rlA
  /-- RR B (R351). -/
  | rrB
  /-- RR C (R351). -/
  | rrC
  /-- RR D (R351). -/
  | rrD
  /-- RR E (R351). -/
  | rrE
  /-- RR H (R351). -/
  | rrH
  /-- RR L (R351). -/
  | rrL
  /-- RR (HL) (R352). -/
  | rrIndHL
  /-- RR A (R351). -/
  | rrA
  /-- SLA B (R353). -/
  | slaB
  /-- SLA C (R353). -/
  | slaC
  /-- SLA D (R353). -/
  | slaD
  /-- SLA E (R353). -/
  | slaE
  /-- SLA H (R353). -/
  | slaH
  /-- SLA L (R353). -/
  | slaL
  /-- SLA (HL) (R354). -/
  | slaIndHL
  /-- SLA A (R353). -/
  | slaA
  /-- SRA B (R355). -/
  | sraB
  /-- SRA C (R355). -/
  | sraC
  /-- SRA D (R355). -/
  | sraD
  /-- SRA E (R355). -/
  | sraE
  /-- SRA H (R355). -/
  | sraH
  /-- SRA L (R355). -/
  | sraL
  /-- SRA (HL) (R356). -/
  | sraIndHL
  /-- SRA A (R355). -/
  | sraA
  /-- SWAP B (R357). -/
  | swapB
  /-- SWAP C (R357). -/
  | swapC
  /-- SWAP D (R357). -/
  | swapD
  /-- SWAP E (R357). -/
  | swapE
  /-- SWAP H (R357). -/
  | swapH
  /-- SWAP L (R357). -/
  | swapL
  /-- SWAP (HL) (R358). -/
  | swapIndHL
  /-- SWAP A (R357). -/
  | swapA
  /-- SRL B (R359). -/
  | srlB
  /-- SRL C (R359). -/
  | srlC
  /-- SRL D (R359). -/
  | srlD
  /-- SRL E (R359). -/
  | srlE
  /-- SRL H (R359). -/
  | srlH
  /-- SRL L (R359). -/
  | srlL
  /-- SRL (HL) (R360). -/
  | srlIndHL
  /-- SRL A (R359). -/
  | srlA
  /-- BIT 0,B (R361). -/
  | bit0B
  /-- BIT 0,C (R361). -/
  | bit0C
  /-- BIT 0,D (R361). -/
  | bit0D
  /-- BIT 0,E (R361). -/
  | bit0E
  /-- BIT 0,H (R361). -/
  | bit0H
  /-- BIT 0,L (R361). -/
  | bit0L
  /-- BIT 0,(HL) (R362). -/
  | bit0IndHL
  /-- BIT 0,A (R361). -/
  | bit0A
  /-- BIT 1,B (R361). -/
  | bit1B
  /-- BIT 1,C (R361). -/
  | bit1C
  /-- BIT 1,D (R361). -/
  | bit1D
  /-- BIT 1,E (R361). -/
  | bit1E
  /-- BIT 1,H (R361). -/
  | bit1H
  /-- BIT 1,L (R361). -/
  | bit1L
  /-- BIT 1,(HL) (R362). -/
  | bit1IndHL
  /-- BIT 1,A (R361). -/
  | bit1A
  /-- BIT 2,B (R361). -/
  | bit2B
  /-- BIT 2,C (R361). -/
  | bit2C
  /-- BIT 2,D (R361). -/
  | bit2D
  /-- BIT 2,E (R361). -/
  | bit2E
  /-- BIT 2,H (R361). -/
  | bit2H
  /-- BIT 2,L (R361). -/
  | bit2L
  /-- BIT 2,(HL) (R362). -/
  | bit2IndHL
  /-- BIT 2,A (R361). -/
  | bit2A
  /-- BIT 3,B (R361). -/
  | bit3B
  /-- BIT 3,C (R361). -/
  | bit3C
  /-- BIT 3,D (R361). -/
  | bit3D
  /-- BIT 3,E (R361). -/
  | bit3E
  /-- BIT 3,H (R361). -/
  | bit3H
  /-- BIT 3,L (R361). -/
  | bit3L
  /-- BIT 3,(HL) (R362). -/
  | bit3IndHL
  /-- BIT 3,A (R361). -/
  | bit3A
  /-- BIT 4,B (R361). -/
  | bit4B
  /-- BIT 4,C (R361). -/
  | bit4C
  /-- BIT 4,D (R361). -/
  | bit4D
  /-- BIT 4,E (R361). -/
  | bit4E
  /-- BIT 4,H (R361). -/
  | bit4H
  /-- BIT 4,L (R361). -/
  | bit4L
  /-- BIT 4,(HL) (R362). -/
  | bit4IndHL
  /-- BIT 4,A (R361). -/
  | bit4A
  /-- BIT 5,B (R361). -/
  | bit5B
  /-- BIT 5,C (R361). -/
  | bit5C
  /-- BIT 5,D (R361). -/
  | bit5D
  /-- BIT 5,E (R361). -/
  | bit5E
  /-- BIT 5,H (R361). -/
  | bit5H
  /-- BIT 5,L (R361). -/
  | bit5L
  /-- BIT 5,(HL) (R362). -/
  | bit5IndHL
  /-- BIT 5,A (R361). -/
  | bit5A
  /-- BIT 6,B (R361). -/
  | bit6B
  /-- BIT 6,C (R361). -/
  | bit6C
  /-- BIT 6,D (R361). -/
  | bit6D
  /-- BIT 6,E (R361). -/
  | bit6E
  /-- BIT 6,H (R361). -/
  | bit6H
  /-- BIT 6,L (R361). -/
  | bit6L
  /-- BIT 6,(HL) (R362). -/
  | bit6IndHL
  /-- BIT 6,A (R361). -/
  | bit6A
  /-- BIT 7,B (R361). -/
  | bit7B
  /-- BIT 7,C (R361). -/
  | bit7C
  /-- BIT 7,D (R361). -/
  | bit7D
  /-- BIT 7,E (R361). -/
  | bit7E
  /-- BIT 7,H (R361). -/
  | bit7H
  /-- BIT 7,L (R361). -/
  | bit7L
  /-- BIT 7,(HL) (R362). -/
  | bit7IndHL
  /-- BIT 7,A (R361). -/
  | bit7A
  /-- RES 0,B (R363). -/
  | res0B
  /-- RES 0,C (R363). -/
  | res0C
  /-- RES 0,D (R363). -/
  | res0D
  /-- RES 0,E (R363). -/
  | res0E
  /-- RES 0,H (R363). -/
  | res0H
  /-- RES 0,L (R363). -/
  | res0L
  /-- RES 0,(HL) (R364). -/
  | res0IndHL
  /-- RES 0,A (R363). -/
  | res0A
  /-- RES 1,B (R363). -/
  | res1B
  /-- RES 1,C (R363). -/
  | res1C
  /-- RES 1,D (R363). -/
  | res1D
  /-- RES 1,E (R363). -/
  | res1E
  /-- RES 1,H (R363). -/
  | res1H
  /-- RES 1,L (R363). -/
  | res1L
  /-- RES 1,(HL) (R364). -/
  | res1IndHL
  /-- RES 1,A (R363). -/
  | res1A
  /-- RES 2,B (R363). -/
  | res2B
  /-- RES 2,C (R363). -/
  | res2C
  /-- RES 2,D (R363). -/
  | res2D
  /-- RES 2,E (R363). -/
  | res2E
  /-- RES 2,H (R363). -/
  | res2H
  /-- RES 2,L (R363). -/
  | res2L
  /-- RES 2,(HL) (R364). -/
  | res2IndHL
  /-- RES 2,A (R363). -/
  | res2A
  /-- RES 3,B (R363). -/
  | res3B
  /-- RES 3,C (R363). -/
  | res3C
  /-- RES 3,D (R363). -/
  | res3D
  /-- RES 3,E (R363). -/
  | res3E
  /-- RES 3,H (R363). -/
  | res3H
  /-- RES 3,L (R363). -/
  | res3L
  /-- RES 3,(HL) (R364). -/
  | res3IndHL
  /-- RES 3,A (R363). -/
  | res3A
  /-- RES 4,B (R363). -/
  | res4B
  /-- RES 4,C (R363). -/
  | res4C
  /-- RES 4,D (R363). -/
  | res4D
  /-- RES 4,E (R363). -/
  | res4E
  /-- RES 4,H (R363). -/
  | res4H
  /-- RES 4,L (R363). -/
  | res4L
  /-- RES 4,(HL) (R364). -/
  | res4IndHL
  /-- RES 4,A (R363). -/
  | res4A
  /-- RES 5,B (R363). -/
  | res5B
  /-- RES 5,C (R363). -/
  | res5C
  /-- RES 5,D (R363). -/
  | res5D
  /-- RES 5,E (R363). -/
  | res5E
  /-- RES 5,H (R363). -/
  | res5H
  /-- RES 5,L (R363). -/
  | res5L
  /-- RES 5,(HL) (R364). -/
  | res5IndHL
  /-- RES 5,A (R363). -/
  | res5A
  /-- RES 6,B (R363). -/
  | res6B
  /-- RES 6,C (R363). -/
  | res6C
  /-- RES 6,D (R363). -/
  | res6D
  /-- RES 6,E (R363). -/
  | res6E
  /-- RES 6,H (R363). -/
  | res6H
  /-- RES 6,L (R363). -/
  | res6L
  /-- RES 6,(HL) (R364). -/
  | res6IndHL
  /-- RES 6,A (R363). -/
  | res6A
  /-- RES 7,B (R363). -/
  | res7B
  /-- RES 7,C (R363). -/
  | res7C
  /-- RES 7,D (R363). -/
  | res7D
  /-- RES 7,E (R363). -/
  | res7E
  /-- RES 7,H (R363). -/
  | res7H
  /-- RES 7,L (R363). -/
  | res7L
  /-- RES 7,(HL) (R364). -/
  | res7IndHL
  /-- RES 7,A (R363). -/
  | res7A
  /-- SET 0,B (R365). -/
  | set0B
  /-- SET 0,C (R365). -/
  | set0C
  /-- SET 0,D (R365). -/
  | set0D
  /-- SET 0,E (R365). -/
  | set0E
  /-- SET 0,H (R365). -/
  | set0H
  /-- SET 0,L (R365). -/
  | set0L
  /-- SET 0,(HL) (R366). -/
  | set0IndHL
  /-- SET 0,A (R365). -/
  | set0A
  /-- SET 1,B (R365). -/
  | set1B
  /-- SET 1,C (R365). -/
  | set1C
  /-- SET 1,D (R365). -/
  | set1D
  /-- SET 1,E (R365). -/
  | set1E
  /-- SET 1,H (R365). -/
  | set1H
  /-- SET 1,L (R365). -/
  | set1L
  /-- SET 1,(HL) (R366). -/
  | set1IndHL
  /-- SET 1,A (R365). -/
  | set1A
  /-- SET 2,B (R365). -/
  | set2B
  /-- SET 2,C (R365). -/
  | set2C
  /-- SET 2,D (R365). -/
  | set2D
  /-- SET 2,E (R365). -/
  | set2E
  /-- SET 2,H (R365). -/
  | set2H
  /-- SET 2,L (R365). -/
  | set2L
  /-- SET 2,(HL) (R366). -/
  | set2IndHL
  /-- SET 2,A (R365). -/
  | set2A
  /-- SET 3,B (R365). -/
  | set3B
  /-- SET 3,C (R365). -/
  | set3C
  /-- SET 3,D (R365). -/
  | set3D
  /-- SET 3,E (R365). -/
  | set3E
  /-- SET 3,H (R365). -/
  | set3H
  /-- SET 3,L (R365). -/
  | set3L
  /-- SET 3,(HL) (R366). -/
  | set3IndHL
  /-- SET 3,A (R365). -/
  | set3A
  /-- SET 4,B (R365). -/
  | set4B
  /-- SET 4,C (R365). -/
  | set4C
  /-- SET 4,D (R365). -/
  | set4D
  /-- SET 4,E (R365). -/
  | set4E
  /-- SET 4,H (R365). -/
  | set4H
  /-- SET 4,L (R365). -/
  | set4L
  /-- SET 4,(HL) (R366). -/
  | set4IndHL
  /-- SET 4,A (R365). -/
  | set4A
  /-- SET 5,B (R365). -/
  | set5B
  /-- SET 5,C (R365). -/
  | set5C
  /-- SET 5,D (R365). -/
  | set5D
  /-- SET 5,E (R365). -/
  | set5E
  /-- SET 5,H (R365). -/
  | set5H
  /-- SET 5,L (R365). -/
  | set5L
  /-- SET 5,(HL) (R366). -/
  | set5IndHL
  /-- SET 5,A (R365). -/
  | set5A
  /-- SET 6,B (R365). -/
  | set6B
  /-- SET 6,C (R365). -/
  | set6C
  /-- SET 6,D (R365). -/
  | set6D
  /-- SET 6,E (R365). -/
  | set6E
  /-- SET 6,H (R365). -/
  | set6H
  /-- SET 6,L (R365). -/
  | set6L
  /-- SET 6,(HL) (R366). -/
  | set6IndHL
  /-- SET 6,A (R365). -/
  | set6A
  /-- SET 7,B (R365). -/
  | set7B
  /-- SET 7,C (R365). -/
  | set7C
  /-- SET 7,D (R365). -/
  | set7D
  /-- SET 7,E (R365). -/
  | set7E
  /-- SET 7,H (R365). -/
  | set7H
  /-- SET 7,L (R365). -/
  | set7L
  /-- SET 7,(HL) (R366). -/
  | set7IndHL
  /-- SET 7,A (R365). -/
  | set7A
  deriving DecidableEq, Repr

end Sys2Proof
end

