-- ==== Sys2Proof/WellFormed.lean ====
section
/-! DEFINITION. Which terms of Instr stand for an instruction. -/

namespace Sys2Proof

/-- Every operand field of every row admits all its values (30_encoding.md R183 to R186), so the one
term that stands for no instruction is PREFIX CB alone: "It is not an instruction of its own"
(45_system.md R406); with its second byte it is a CB row. -/
def Instr.wellFormed : Instr → Bool
  | .cbPrefix _ => false
  | _ => true

end Sys2Proof
end

