-- ==== Sys2Proof/Decode.lean ====
section
/-! DEFINITION. The decoder, total on any bytes and rejecting by name, and the encoder, both written from the opcode maps of 30_encoding.md R187 and R188. -/

namespace Sys2Proof

/-- The 16-bit value `hi : lo` (00_scope.md R9). -/
def wordOf (hi lo : Byte) : Word := hi ++ lo

/-- Bits 15 to 8 of a word. -/
def highByte (w : Word) : Byte := w.extractLsb' 8 8

/-- Bits 7 to 0 of a word. -/
def lowByte (w : Word) : Byte := w.extractLsb' 0 8

/-- What follows an opcode byte: nothing, one operand byte, a little-endian 16-bit operand, or the
second opcode byte of a CB instruction (30_encoding.md R180, R183). -/
inductive Format where
  | fixed (i : Instr)
  | imm8 (f : Byte → Instr)
  | imm16 (f : Word → Instr)
  | cbRow

/-- Why bytes are not an instruction: there are too few of them. -/
inductive Reject where
  | noBytes
  | missingOperand (op : Byte)
  deriving DecidableEq, Repr

/-- The primary opcode map (30_encoding.md R187): one row for each high nibble. -/
def primaryMap : List (List Format) :=
  [
   -- 0x
   [
    .fixed .nop, .imm16 .ldBCD16, .fixed .ldIndBCA, .fixed .incBC, .fixed .incB, .fixed .decB,
    .imm8 .ldBD8, .fixed .rlca, .imm16 .ldIndA16SP, .fixed .addHLBC, .fixed .ldAIndBC,
    .fixed .decBC, .fixed .incC, .fixed .decC, .imm8 .ldCD8, .fixed .rrca],
   -- 1x
   [
    .imm8 .stop, .imm16 .ldDED16, .fixed .ldIndDEA, .fixed .incDE, .fixed .incD, .fixed .decD,
    .imm8 .ldDD8, .fixed .rla, .imm8 .jrE8, .fixed .addHLDE, .fixed .ldAIndDE, .fixed .decDE,
    .fixed .incE, .fixed .decE, .imm8 .ldED8, .fixed .rra],
   -- 2x
   [
    .imm8 .jrNZE8, .imm16 .ldHLD16, .fixed .ldIndHLIncA, .fixed .incHL, .fixed .incH, .fixed .decH,
    .imm8 .ldHD8, .fixed .daa, .imm8 .jrZE8, .fixed .addHLHL, .fixed .ldAIndHLInc, .fixed .decHL,
    .fixed .incL, .fixed .decL, .imm8 .ldLD8, .fixed .cpl],
   -- 3x
   [
    .imm8 .jrNCE8, .imm16 .ldSPD16, .fixed .ldIndHLDecA, .fixed .incSP, .fixed .incIndHL,
    .fixed .decIndHL, .imm8 .ldIndHLD8, .fixed .scf, .imm8 .jrCE8, .fixed .addHLSP,
    .fixed .ldAIndHLDec, .fixed .decSP, .fixed .incA, .fixed .decA, .imm8 .ldAD8, .fixed .ccf],
   -- 4x
   [
    .fixed .ldBB, .fixed .ldBC, .fixed .ldBD, .fixed .ldBE, .fixed .ldBH, .fixed .ldBL,
    .fixed .ldBIndHL, .fixed .ldBA, .fixed .ldCB, .fixed .ldCC, .fixed .ldCD, .fixed .ldCE,
    .fixed .ldCH, .fixed .ldCL, .fixed .ldCIndHL, .fixed .ldCA],
   -- 5x
   [
    .fixed .ldDB, .fixed .ldDC, .fixed .ldDD, .fixed .ldDE, .fixed .ldDH, .fixed .ldDL,
    .fixed .ldDIndHL, .fixed .ldDA, .fixed .ldEB, .fixed .ldEC, .fixed .ldED, .fixed .ldEE,
    .fixed .ldEH, .fixed .ldEL, .fixed .ldEIndHL, .fixed .ldEA],
   -- 6x
   [
    .fixed .ldHB, .fixed .ldHC, .fixed .ldHD, .fixed .ldHE, .fixed .ldHH, .fixed .ldHL,
    .fixed .ldHIndHL, .fixed .ldHA, .fixed .ldLB, .fixed .ldLC, .fixed .ldLD, .fixed .ldLE,
    .fixed .ldLH, .fixed .ldLL, .fixed .ldLIndHL, .fixed .ldLA],
   -- 7x
   [
    .fixed .ldIndHLB, .fixed .ldIndHLC, .fixed .ldIndHLD, .fixed .ldIndHLE, .fixed .ldIndHLH,
    .fixed .ldIndHLL, .fixed .halt, .fixed .ldIndHLA, .fixed .ldAB, .fixed .ldAC, .fixed .ldAD,
    .fixed .ldAE, .fixed .ldAH, .fixed .ldAL, .fixed .ldAIndHL, .fixed .ldAA],
   -- 8x
   [
    .fixed .addAB, .fixed .addAC, .fixed .addAD, .fixed .addAE, .fixed .addAH, .fixed .addAL,
    .fixed .addAIndHL, .fixed .addAA, .fixed .adcAB, .fixed .adcAC, .fixed .adcAD, .fixed .adcAE,
    .fixed .adcAH, .fixed .adcAL, .fixed .adcAIndHL, .fixed .adcAA],
   -- 9x
   [
    .fixed .subB, .fixed .subC, .fixed .subD, .fixed .subE, .fixed .subH, .fixed .subL,
    .fixed .subIndHL, .fixed .subA, .fixed .sbcAB, .fixed .sbcAC, .fixed .sbcAD, .fixed .sbcAE,
    .fixed .sbcAH, .fixed .sbcAL, .fixed .sbcAIndHL, .fixed .sbcAA],
   -- Ax
   [
    .fixed .andB, .fixed .andC, .fixed .andD, .fixed .andE, .fixed .andH, .fixed .andL,
    .fixed .andIndHL, .fixed .andA, .fixed .xorB, .fixed .xorC, .fixed .xorD, .fixed .xorE,
    .fixed .xorH, .fixed .xorL, .fixed .xorIndHL, .fixed .xorA],
   -- Bx
   [
    .fixed .orB, .fixed .orC, .fixed .orD, .fixed .orE, .fixed .orH, .fixed .orL, .fixed .orIndHL,
    .fixed .orA, .fixed .cpB, .fixed .cpC, .fixed .cpD, .fixed .cpE, .fixed .cpH, .fixed .cpL,
    .fixed .cpIndHL, .fixed .cpA],
   -- Cx
   [
    .fixed .retNZ, .fixed .popBC, .imm16 .jpNZA16, .imm16 .jpA16, .imm16 .callNZA16,
    .fixed .pushBC, .imm8 .addAD8, .fixed .rst00, .fixed .retZ, .fixed .ret, .imm16 .jpZA16,
    .cbRow, .imm16 .callZA16, .imm16 .callA16, .imm8 .adcAD8, .fixed .rst08],
   -- Dx
   [
    .fixed .retNC, .fixed .popDE, .imm16 .jpNCA16, .fixed .illegalD3, .imm16 .callNCA16,
    .fixed .pushDE, .imm8 .subD8, .fixed .rst10, .fixed .retC, .fixed .reti, .imm16 .jpCA16,
    .fixed .illegalDB, .imm16 .callCA16, .fixed .illegalDD, .imm8 .sbcAD8, .fixed .rst18],
   -- Ex
   [
    .imm8 .ldhIndA8A, .fixed .popHL, .fixed .ldhIndCA, .fixed .illegalE3, .fixed .illegalE4,
    .fixed .pushHL, .imm8 .andD8, .fixed .rst20, .imm8 .addSPE8, .fixed .jpHL, .imm16 .ldIndA16A,
    .fixed .illegalEB, .fixed .illegalEC, .fixed .illegalED, .imm8 .xorD8, .fixed .rst28],
   -- Fx
   [
    .imm8 .ldhAIndA8, .fixed .popAF, .fixed .ldhAIndC, .fixed .di, .fixed .illegalF4,
    .fixed .pushAF, .imm8 .orD8, .fixed .rst30, .imm8 .ldHLSPE8, .fixed .ldSPHL, .imm16 .ldAIndA16,
    .fixed .ei, .fixed .illegalFC, .fixed .illegalFD, .imm8 .cpD8, .fixed .rst38]]

/-- The CB map (30_encoding.md R188): one row for each high nibble of the second byte. -/
def cbMap : List (List Instr) :=
  [
   -- 0x
   [
    .rlcB, .rlcC, .rlcD, .rlcE, .rlcH, .rlcL, .rlcIndHL, .rlcA, .rrcB, .rrcC, .rrcD, .rrcE, .rrcH,
    .rrcL, .rrcIndHL, .rrcA],
   -- 1x
   [
    .rlB, .rlC, .rlD, .rlE, .rlH, .rlL, .rlIndHL, .rlA, .rrB, .rrC, .rrD, .rrE, .rrH, .rrL,
    .rrIndHL, .rrA],
   -- 2x
   [
    .slaB, .slaC, .slaD, .slaE, .slaH, .slaL, .slaIndHL, .slaA, .sraB, .sraC, .sraD, .sraE, .sraH,
    .sraL, .sraIndHL, .sraA],
   -- 3x
   [
    .swapB, .swapC, .swapD, .swapE, .swapH, .swapL, .swapIndHL, .swapA, .srlB, .srlC, .srlD, .srlE,
    .srlH, .srlL, .srlIndHL, .srlA],
   -- 4x
   [
    .bit0B, .bit0C, .bit0D, .bit0E, .bit0H, .bit0L, .bit0IndHL, .bit0A, .bit1B, .bit1C, .bit1D,
    .bit1E, .bit1H, .bit1L, .bit1IndHL, .bit1A],
   -- 5x
   [
    .bit2B, .bit2C, .bit2D, .bit2E, .bit2H, .bit2L, .bit2IndHL, .bit2A, .bit3B, .bit3C, .bit3D,
    .bit3E, .bit3H, .bit3L, .bit3IndHL, .bit3A],
   -- 6x
   [
    .bit4B, .bit4C, .bit4D, .bit4E, .bit4H, .bit4L, .bit4IndHL, .bit4A, .bit5B, .bit5C, .bit5D,
    .bit5E, .bit5H, .bit5L, .bit5IndHL, .bit5A],
   -- 7x
   [
    .bit6B, .bit6C, .bit6D, .bit6E, .bit6H, .bit6L, .bit6IndHL, .bit6A, .bit7B, .bit7C, .bit7D,
    .bit7E, .bit7H, .bit7L, .bit7IndHL, .bit7A],
   -- 8x
   [
    .res0B, .res0C, .res0D, .res0E, .res0H, .res0L, .res0IndHL, .res0A, .res1B, .res1C, .res1D,
    .res1E, .res1H, .res1L, .res1IndHL, .res1A],
   -- 9x
   [
    .res2B, .res2C, .res2D, .res2E, .res2H, .res2L, .res2IndHL, .res2A, .res3B, .res3C, .res3D,
    .res3E, .res3H, .res3L, .res3IndHL, .res3A],
   -- Ax
   [
    .res4B, .res4C, .res4D, .res4E, .res4H, .res4L, .res4IndHL, .res4A, .res5B, .res5C, .res5D,
    .res5E, .res5H, .res5L, .res5IndHL, .res5A],
   -- Bx
   [
    .res6B, .res6C, .res6D, .res6E, .res6H, .res6L, .res6IndHL, .res6A, .res7B, .res7C, .res7D,
    .res7E, .res7H, .res7L, .res7IndHL, .res7A],
   -- Cx
   [
    .set0B, .set0C, .set0D, .set0E, .set0H, .set0L, .set0IndHL, .set0A, .set1B, .set1C, .set1D,
    .set1E, .set1H, .set1L, .set1IndHL, .set1A],
   -- Dx
   [
    .set2B, .set2C, .set2D, .set2E, .set2H, .set2L, .set2IndHL, .set2A, .set3B, .set3C, .set3D,
    .set3E, .set3H, .set3L, .set3IndHL, .set3A],
   -- Ex
   [
    .set4B, .set4C, .set4D, .set4E, .set4H, .set4L, .set4IndHL, .set4A, .set5B, .set5C, .set5D,
    .set5E, .set5H, .set5L, .set5IndHL, .set5A],
   -- Fx
   [
    .set6B, .set6C, .set6D, .set6E, .set6H, .set6L, .set6IndHL, .set6A, .set7B, .set7C, .set7D,
    .set7E, .set7H, .set7L, .set7IndHL, .set7A]]

/-- The row of the primary map for an opcode byte. -/
def primaryRow (op : Byte) : Format :=
  (primaryMap.getD (op.toNat / 16) []).getD (op.toNat % 16) .cbRow

/-- The CB instruction of a second byte (30_encoding.md R182, R188): every byte has one. -/
def cbInstr (cbop : Byte) : Instr :=
  (cbMap.getD (cbop.toNat / 16) []).getD (cbop.toNat % 16) .nop

/-- Decode the instruction at the front of a list of bytes and give back the bytes after it
(30_encoding.md R183, R191). Any bytes that are long enough decode; the undefined opcodes decode to
their own constructors. -/
def decode : List Byte → Except Reject (Instr × List Byte)
  | [] => .error .noBytes
  | op :: rest =>
    match primaryRow op, rest with
    | .fixed i, rest => .ok (i, rest)
    | .imm8 f, b :: rest => .ok (f b, rest)
    | .imm16 f, lo :: hi :: rest => .ok (f (wordOf hi lo), rest)
    | .cbRow, cbop :: rest => .ok (cbInstr cbop, rest)
    | _, _ => .error (.missingOperand op)

/-- The bytes of an instruction, lowest address first (30_encoding.md R180 to R188). -/
def encode : Instr → List Byte
  | .nop => [0x00]
  | .ldBCD16 d16 => [0x01, lowByte d16, highByte d16]
  | .ldIndBCA => [0x02]
  | .incBC => [0x03]
  | .incB => [0x04]
  | .decB => [0x05]
  | .ldBD8 d8 => [0x06, d8]
  | .rlca => [0x07]
  | .ldIndA16SP a16 => [0x08, lowByte a16, highByte a16]
  | .addHLBC => [0x09]
  | .ldAIndBC => [0x0A]
  | .decBC => [0x0B]
  | .incC => [0x0C]
  | .decC => [0x0D]
  | .ldCD8 d8 => [0x0E, d8]
  | .rrca => [0x0F]
  | .stop ignored => [0x10, ignored]
  | .ldDED16 d16 => [0x11, lowByte d16, highByte d16]
  | .ldIndDEA => [0x12]
  | .incDE => [0x13]
  | .incD => [0x14]
  | .decD => [0x15]
  | .ldDD8 d8 => [0x16, d8]
  | .rla => [0x17]
  | .jrE8 e8 => [0x18, e8]
  | .addHLDE => [0x19]
  | .ldAIndDE => [0x1A]
  | .decDE => [0x1B]
  | .incE => [0x1C]
  | .decE => [0x1D]
  | .ldED8 d8 => [0x1E, d8]
  | .rra => [0x1F]
  | .jrNZE8 e8 => [0x20, e8]
  | .ldHLD16 d16 => [0x21, lowByte d16, highByte d16]
  | .ldIndHLIncA => [0x22]
  | .incHL => [0x23]
  | .incH => [0x24]
  | .decH => [0x25]
  | .ldHD8 d8 => [0x26, d8]
  | .daa => [0x27]
  | .jrZE8 e8 => [0x28, e8]
  | .addHLHL => [0x29]
  | .ldAIndHLInc => [0x2A]
  | .decHL => [0x2B]
  | .incL => [0x2C]
  | .decL => [0x2D]
  | .ldLD8 d8 => [0x2E, d8]
  | .cpl => [0x2F]
  | .jrNCE8 e8 => [0x30, e8]
  | .ldSPD16 d16 => [0x31, lowByte d16, highByte d16]
  | .ldIndHLDecA => [0x32]
  | .incSP => [0x33]
  | .incIndHL => [0x34]
  | .decIndHL => [0x35]
  | .ldIndHLD8 d8 => [0x36, d8]
  | .scf => [0x37]
  | .jrCE8 e8 => [0x38, e8]
  | .addHLSP => [0x39]
  | .ldAIndHLDec => [0x3A]
  | .decSP => [0x3B]
  | .incA => [0x3C]
  | .decA => [0x3D]
  | .ldAD8 d8 => [0x3E, d8]
  | .ccf => [0x3F]
  | .ldBB => [0x40]
  | .ldBC => [0x41]
  | .ldBD => [0x42]
  | .ldBE => [0x43]
  | .ldBH => [0x44]
  | .ldBL => [0x45]
  | .ldBIndHL => [0x46]
  | .ldBA => [0x47]
  | .ldCB => [0x48]
  | .ldCC => [0x49]
  | .ldCD => [0x4A]
  | .ldCE => [0x4B]
  | .ldCH => [0x4C]
  | .ldCL => [0x4D]
  | .ldCIndHL => [0x4E]
  | .ldCA => [0x4F]
  | .ldDB => [0x50]
  | .ldDC => [0x51]
  | .ldDD => [0x52]
  | .ldDE => [0x53]
  | .ldDH => [0x54]
  | .ldDL => [0x55]
  | .ldDIndHL => [0x56]
  | .ldDA => [0x57]
  | .ldEB => [0x58]
  | .ldEC => [0x59]
  | .ldED => [0x5A]
  | .ldEE => [0x5B]
  | .ldEH => [0x5C]
  | .ldEL => [0x5D]
  | .ldEIndHL => [0x5E]
  | .ldEA => [0x5F]
  | .ldHB => [0x60]
  | .ldHC => [0x61]
  | .ldHD => [0x62]
  | .ldHE => [0x63]
  | .ldHH => [0x64]
  | .ldHL => [0x65]
  | .ldHIndHL => [0x66]
  | .ldHA => [0x67]
  | .ldLB => [0x68]
  | .ldLC => [0x69]
  | .ldLD => [0x6A]
  | .ldLE => [0x6B]
  | .ldLH => [0x6C]
  | .ldLL => [0x6D]
  | .ldLIndHL => [0x6E]
  | .ldLA => [0x6F]
  | .ldIndHLB => [0x70]
  | .ldIndHLC => [0x71]
  | .ldIndHLD => [0x72]
  | .ldIndHLE => [0x73]
  | .ldIndHLH => [0x74]
  | .ldIndHLL => [0x75]
  | .halt => [0x76]
  | .ldIndHLA => [0x77]
  | .ldAB => [0x78]
  | .ldAC => [0x79]
  | .ldAD => [0x7A]
  | .ldAE => [0x7B]
  | .ldAH => [0x7C]
  | .ldAL => [0x7D]
  | .ldAIndHL => [0x7E]
  | .ldAA => [0x7F]
  | .addAB => [0x80]
  | .addAC => [0x81]
  | .addAD => [0x82]
  | .addAE => [0x83]
  | .addAH => [0x84]
  | .addAL => [0x85]
  | .addAIndHL => [0x86]
  | .addAA => [0x87]
  | .adcAB => [0x88]
  | .adcAC => [0x89]
  | .adcAD => [0x8A]
  | .adcAE => [0x8B]
  | .adcAH => [0x8C]
  | .adcAL => [0x8D]
  | .adcAIndHL => [0x8E]
  | .adcAA => [0x8F]
  | .subB => [0x90]
  | .subC => [0x91]
  | .subD => [0x92]
  | .subE => [0x93]
  | .subH => [0x94]
  | .subL => [0x95]
  | .subIndHL => [0x96]
  | .subA => [0x97]
  | .sbcAB => [0x98]
  | .sbcAC => [0x99]
  | .sbcAD => [0x9A]
  | .sbcAE => [0x9B]
  | .sbcAH => [0x9C]
  | .sbcAL => [0x9D]
  | .sbcAIndHL => [0x9E]
  | .sbcAA => [0x9F]
  | .andB => [0xA0]
  | .andC => [0xA1]
  | .andD => [0xA2]
  | .andE => [0xA3]
  | .andH => [0xA4]
  | .andL => [0xA5]
  | .andIndHL => [0xA6]
  | .andA => [0xA7]
  | .xorB => [0xA8]
  | .xorC => [0xA9]
  | .xorD => [0xAA]
  | .xorE => [0xAB]
  | .xorH => [0xAC]
  | .xorL => [0xAD]
  | .xorIndHL => [0xAE]
  | .xorA => [0xAF]
  | .orB => [0xB0]
  | .orC => [0xB1]
  | .orD => [0xB2]
  | .orE => [0xB3]
  | .orH => [0xB4]
  | .orL => [0xB5]
  | .orIndHL => [0xB6]
  | .orA => [0xB7]
  | .cpB => [0xB8]
  | .cpC => [0xB9]
  | .cpD => [0xBA]
  | .cpE => [0xBB]
  | .cpH => [0xBC]
  | .cpL => [0xBD]
  | .cpIndHL => [0xBE]
  | .cpA => [0xBF]
  | .retNZ => [0xC0]
  | .popBC => [0xC1]
  | .jpNZA16 a16 => [0xC2, lowByte a16, highByte a16]
  | .jpA16 a16 => [0xC3, lowByte a16, highByte a16]
  | .callNZA16 a16 => [0xC4, lowByte a16, highByte a16]
  | .pushBC => [0xC5]
  | .addAD8 d8 => [0xC6, d8]
  | .rst00 => [0xC7]
  | .retZ => [0xC8]
  | .ret => [0xC9]
  | .jpZA16 a16 => [0xCA, lowByte a16, highByte a16]
  | .cbPrefix cbop => [0xCB, cbop]
  | .callZA16 a16 => [0xCC, lowByte a16, highByte a16]
  | .callA16 a16 => [0xCD, lowByte a16, highByte a16]
  | .adcAD8 d8 => [0xCE, d8]
  | .rst08 => [0xCF]
  | .retNC => [0xD0]
  | .popDE => [0xD1]
  | .jpNCA16 a16 => [0xD2, lowByte a16, highByte a16]
  | .illegalD3 => [0xD3]
  | .callNCA16 a16 => [0xD4, lowByte a16, highByte a16]
  | .pushDE => [0xD5]
  | .subD8 d8 => [0xD6, d8]
  | .rst10 => [0xD7]
  | .retC => [0xD8]
  | .reti => [0xD9]
  | .jpCA16 a16 => [0xDA, lowByte a16, highByte a16]
  | .illegalDB => [0xDB]
  | .callCA16 a16 => [0xDC, lowByte a16, highByte a16]
  | .illegalDD => [0xDD]
  | .sbcAD8 d8 => [0xDE, d8]
  | .rst18 => [0xDF]
  | .ldhIndA8A a8 => [0xE0, a8]
  | .popHL => [0xE1]
  | .ldhIndCA => [0xE2]
  | .illegalE3 => [0xE3]
  | .illegalE4 => [0xE4]
  | .pushHL => [0xE5]
  | .andD8 d8 => [0xE6, d8]
  | .rst20 => [0xE7]
  | .addSPE8 e8 => [0xE8, e8]
  | .jpHL => [0xE9]
  | .ldIndA16A a16 => [0xEA, lowByte a16, highByte a16]
  | .illegalEB => [0xEB]
  | .illegalEC => [0xEC]
  | .illegalED => [0xED]
  | .xorD8 d8 => [0xEE, d8]
  | .rst28 => [0xEF]
  | .ldhAIndA8 a8 => [0xF0, a8]
  | .popAF => [0xF1]
  | .ldhAIndC => [0xF2]
  | .di => [0xF3]
  | .illegalF4 => [0xF4]
  | .pushAF => [0xF5]
  | .orD8 d8 => [0xF6, d8]
  | .rst30 => [0xF7]
  | .ldHLSPE8 e8 => [0xF8, e8]
  | .ldSPHL => [0xF9]
  | .ldAIndA16 a16 => [0xFA, lowByte a16, highByte a16]
  | .ei => [0xFB]
  | .illegalFC => [0xFC]
  | .illegalFD => [0xFD]
  | .cpD8 d8 => [0xFE, d8]
  | .rst38 => [0xFF]
  | .rlcB => [0xCB, 0x00]
  | .rlcC => [0xCB, 0x01]
  | .rlcD => [0xCB, 0x02]
  | .rlcE => [0xCB, 0x03]
  | .rlcH => [0xCB, 0x04]
  | .rlcL => [0xCB, 0x05]
  | .rlcIndHL => [0xCB, 0x06]
  | .rlcA => [0xCB, 0x07]
  | .rrcB => [0xCB, 0x08]
  | .rrcC => [0xCB, 0x09]
  | .rrcD => [0xCB, 0x0A]
  | .rrcE => [0xCB, 0x0B]
  | .rrcH => [0xCB, 0x0C]
  | .rrcL => [0xCB, 0x0D]
  | .rrcIndHL => [0xCB, 0x0E]
  | .rrcA => [0xCB, 0x0F]
  | .rlB => [0xCB, 0x10]
  | .rlC => [0xCB, 0x11]
  | .rlD => [0xCB, 0x12]
  | .rlE => [0xCB, 0x13]
  | .rlH => [0xCB, 0x14]
  | .rlL => [0xCB, 0x15]
  | .rlIndHL => [0xCB, 0x16]
  | .rlA => [0xCB, 0x17]
  | .rrB => [0xCB, 0x18]
  | .rrC => [0xCB, 0x19]
  | .rrD => [0xCB, 0x1A]
  | .rrE => [0xCB, 0x1B]
  | .rrH => [0xCB, 0x1C]
  | .rrL => [0xCB, 0x1D]
  | .rrIndHL => [0xCB, 0x1E]
  | .rrA => [0xCB, 0x1F]
  | .slaB => [0xCB, 0x20]
  | .slaC => [0xCB, 0x21]
  | .slaD => [0xCB, 0x22]
  | .slaE => [0xCB, 0x23]
  | .slaH => [0xCB, 0x24]
  | .slaL => [0xCB, 0x25]
  | .slaIndHL => [0xCB, 0x26]
  | .slaA => [0xCB, 0x27]
  | .sraB => [0xCB, 0x28]
  | .sraC => [0xCB, 0x29]
  | .sraD => [0xCB, 0x2A]
  | .sraE => [0xCB, 0x2B]
  | .sraH => [0xCB, 0x2C]
  | .sraL => [0xCB, 0x2D]
  | .sraIndHL => [0xCB, 0x2E]
  | .sraA => [0xCB, 0x2F]
  | .swapB => [0xCB, 0x30]
  | .swapC => [0xCB, 0x31]
  | .swapD => [0xCB, 0x32]
  | .swapE => [0xCB, 0x33]
  | .swapH => [0xCB, 0x34]
  | .swapL => [0xCB, 0x35]
  | .swapIndHL => [0xCB, 0x36]
  | .swapA => [0xCB, 0x37]
  | .srlB => [0xCB, 0x38]
  | .srlC => [0xCB, 0x39]
  | .srlD => [0xCB, 0x3A]
  | .srlE => [0xCB, 0x3B]
  | .srlH => [0xCB, 0x3C]
  | .srlL => [0xCB, 0x3D]
  | .srlIndHL => [0xCB, 0x3E]
  | .srlA => [0xCB, 0x3F]
  | .bit0B => [0xCB, 0x40]
  | .bit0C => [0xCB, 0x41]
  | .bit0D => [0xCB, 0x42]
  | .bit0E => [0xCB, 0x43]
  | .bit0H => [0xCB, 0x44]
  | .bit0L => [0xCB, 0x45]
  | .bit0IndHL => [0xCB, 0x46]
  | .bit0A => [0xCB, 0x47]
  | .bit1B => [0xCB, 0x48]
  | .bit1C => [0xCB, 0x49]
  | .bit1D => [0xCB, 0x4A]
  | .bit1E => [0xCB, 0x4B]
  | .bit1H => [0xCB, 0x4C]
  | .bit1L => [0xCB, 0x4D]
  | .bit1IndHL => [0xCB, 0x4E]
  | .bit1A => [0xCB, 0x4F]
  | .bit2B => [0xCB, 0x50]
  | .bit2C => [0xCB, 0x51]
  | .bit2D => [0xCB, 0x52]
  | .bit2E => [0xCB, 0x53]
  | .bit2H => [0xCB, 0x54]
  | .bit2L => [0xCB, 0x55]
  | .bit2IndHL => [0xCB, 0x56]
  | .bit2A => [0xCB, 0x57]
  | .bit3B => [0xCB, 0x58]
  | .bit3C => [0xCB, 0x59]
  | .bit3D => [0xCB, 0x5A]
  | .bit3E => [0xCB, 0x5B]
  | .bit3H => [0xCB, 0x5C]
  | .bit3L => [0xCB, 0x5D]
  | .bit3IndHL => [0xCB, 0x5E]
  | .bit3A => [0xCB, 0x5F]
  | .bit4B => [0xCB, 0x60]
  | .bit4C => [0xCB, 0x61]
  | .bit4D => [0xCB, 0x62]
  | .bit4E => [0xCB, 0x63]
  | .bit4H => [0xCB, 0x64]
  | .bit4L => [0xCB, 0x65]
  | .bit4IndHL => [0xCB, 0x66]
  | .bit4A => [0xCB, 0x67]
  | .bit5B => [0xCB, 0x68]
  | .bit5C => [0xCB, 0x69]
  | .bit5D => [0xCB, 0x6A]
  | .bit5E => [0xCB, 0x6B]
  | .bit5H => [0xCB, 0x6C]
  | .bit5L => [0xCB, 0x6D]
  | .bit5IndHL => [0xCB, 0x6E]
  | .bit5A => [0xCB, 0x6F]
  | .bit6B => [0xCB, 0x70]
  | .bit6C => [0xCB, 0x71]
  | .bit6D => [0xCB, 0x72]
  | .bit6E => [0xCB, 0x73]
  | .bit6H => [0xCB, 0x74]
  | .bit6L => [0xCB, 0x75]
  | .bit6IndHL => [0xCB, 0x76]
  | .bit6A => [0xCB, 0x77]
  | .bit7B => [0xCB, 0x78]
  | .bit7C => [0xCB, 0x79]
  | .bit7D => [0xCB, 0x7A]
  | .bit7E => [0xCB, 0x7B]
  | .bit7H => [0xCB, 0x7C]
  | .bit7L => [0xCB, 0x7D]
  | .bit7IndHL => [0xCB, 0x7E]
  | .bit7A => [0xCB, 0x7F]
  | .res0B => [0xCB, 0x80]
  | .res0C => [0xCB, 0x81]
  | .res0D => [0xCB, 0x82]
  | .res0E => [0xCB, 0x83]
  | .res0H => [0xCB, 0x84]
  | .res0L => [0xCB, 0x85]
  | .res0IndHL => [0xCB, 0x86]
  | .res0A => [0xCB, 0x87]
  | .res1B => [0xCB, 0x88]
  | .res1C => [0xCB, 0x89]
  | .res1D => [0xCB, 0x8A]
  | .res1E => [0xCB, 0x8B]
  | .res1H => [0xCB, 0x8C]
  | .res1L => [0xCB, 0x8D]
  | .res1IndHL => [0xCB, 0x8E]
  | .res1A => [0xCB, 0x8F]
  | .res2B => [0xCB, 0x90]
  | .res2C => [0xCB, 0x91]
  | .res2D => [0xCB, 0x92]
  | .res2E => [0xCB, 0x93]
  | .res2H => [0xCB, 0x94]
  | .res2L => [0xCB, 0x95]
  | .res2IndHL => [0xCB, 0x96]
  | .res2A => [0xCB, 0x97]
  | .res3B => [0xCB, 0x98]
  | .res3C => [0xCB, 0x99]
  | .res3D => [0xCB, 0x9A]
  | .res3E => [0xCB, 0x9B]
  | .res3H => [0xCB, 0x9C]
  | .res3L => [0xCB, 0x9D]
  | .res3IndHL => [0xCB, 0x9E]
  | .res3A => [0xCB, 0x9F]
  | .res4B => [0xCB, 0xA0]
  | .res4C => [0xCB, 0xA1]
  | .res4D => [0xCB, 0xA2]
  | .res4E => [0xCB, 0xA3]
  | .res4H => [0xCB, 0xA4]
  | .res4L => [0xCB, 0xA5]
  | .res4IndHL => [0xCB, 0xA6]
  | .res4A => [0xCB, 0xA7]
  | .res5B => [0xCB, 0xA8]
  | .res5C => [0xCB, 0xA9]
  | .res5D => [0xCB, 0xAA]
  | .res5E => [0xCB, 0xAB]
  | .res5H => [0xCB, 0xAC]
  | .res5L => [0xCB, 0xAD]
  | .res5IndHL => [0xCB, 0xAE]
  | .res5A => [0xCB, 0xAF]
  | .res6B => [0xCB, 0xB0]
  | .res6C => [0xCB, 0xB1]
  | .res6D => [0xCB, 0xB2]
  | .res6E => [0xCB, 0xB3]
  | .res6H => [0xCB, 0xB4]
  | .res6L => [0xCB, 0xB5]
  | .res6IndHL => [0xCB, 0xB6]
  | .res6A => [0xCB, 0xB7]
  | .res7B => [0xCB, 0xB8]
  | .res7C => [0xCB, 0xB9]
  | .res7D => [0xCB, 0xBA]
  | .res7E => [0xCB, 0xBB]
  | .res7H => [0xCB, 0xBC]
  | .res7L => [0xCB, 0xBD]
  | .res7IndHL => [0xCB, 0xBE]
  | .res7A => [0xCB, 0xBF]
  | .set0B => [0xCB, 0xC0]
  | .set0C => [0xCB, 0xC1]
  | .set0D => [0xCB, 0xC2]
  | .set0E => [0xCB, 0xC3]
  | .set0H => [0xCB, 0xC4]
  | .set0L => [0xCB, 0xC5]
  | .set0IndHL => [0xCB, 0xC6]
  | .set0A => [0xCB, 0xC7]
  | .set1B => [0xCB, 0xC8]
  | .set1C => [0xCB, 0xC9]
  | .set1D => [0xCB, 0xCA]
  | .set1E => [0xCB, 0xCB]
  | .set1H => [0xCB, 0xCC]
  | .set1L => [0xCB, 0xCD]
  | .set1IndHL => [0xCB, 0xCE]
  | .set1A => [0xCB, 0xCF]
  | .set2B => [0xCB, 0xD0]
  | .set2C => [0xCB, 0xD1]
  | .set2D => [0xCB, 0xD2]
  | .set2E => [0xCB, 0xD3]
  | .set2H => [0xCB, 0xD4]
  | .set2L => [0xCB, 0xD5]
  | .set2IndHL => [0xCB, 0xD6]
  | .set2A => [0xCB, 0xD7]
  | .set3B => [0xCB, 0xD8]
  | .set3C => [0xCB, 0xD9]
  | .set3D => [0xCB, 0xDA]
  | .set3E => [0xCB, 0xDB]
  | .set3H => [0xCB, 0xDC]
  | .set3L => [0xCB, 0xDD]
  | .set3IndHL => [0xCB, 0xDE]
  | .set3A => [0xCB, 0xDF]
  | .set4B => [0xCB, 0xE0]
  | .set4C => [0xCB, 0xE1]
  | .set4D => [0xCB, 0xE2]
  | .set4E => [0xCB, 0xE3]
  | .set4H => [0xCB, 0xE4]
  | .set4L => [0xCB, 0xE5]
  | .set4IndHL => [0xCB, 0xE6]
  | .set4A => [0xCB, 0xE7]
  | .set5B => [0xCB, 0xE8]
  | .set5C => [0xCB, 0xE9]
  | .set5D => [0xCB, 0xEA]
  | .set5E => [0xCB, 0xEB]
  | .set5H => [0xCB, 0xEC]
  | .set5L => [0xCB, 0xED]
  | .set5IndHL => [0xCB, 0xEE]
  | .set5A => [0xCB, 0xEF]
  | .set6B => [0xCB, 0xF0]
  | .set6C => [0xCB, 0xF1]
  | .set6D => [0xCB, 0xF2]
  | .set6E => [0xCB, 0xF3]
  | .set6H => [0xCB, 0xF4]
  | .set6L => [0xCB, 0xF5]
  | .set6IndHL => [0xCB, 0xF6]
  | .set6A => [0xCB, 0xF7]
  | .set7B => [0xCB, 0xF8]
  | .set7C => [0xCB, 0xF9]
  | .set7D => [0xCB, 0xFA]
  | .set7E => [0xCB, 0xFB]
  | .set7H => [0xCB, 0xFC]
  | .set7L => [0xCB, 0xFD]
  | .set7IndHL => [0xCB, 0xFE]
  | .set7A => [0xCB, 0xFF]

/-- The number of bytes of an instruction: its row's `length` (30_encoding.md R180). -/
def Instr.length (i : Instr) : Nat := (encode i).length

/-- The bytes, lowest address first, of an instruction whose bits the opcode table gives as the
number `w` of `nbits` bits, with zeros after them up to three bytes. A row of one byte is the opcode.
A row of two bytes is a CB row: the table prints it as 0xCB followed by the second byte, so 0xCB,
which is fetched first (30_encoding.md R191), stands in bits 15 to 8; a number that holds 0xCB in its
low byte instead is read with the first byte lowest. DEDUCED, log entry 8. -/
def tableBytes (nbits w : Nat) : List Byte :=
  let low := BitVec.ofNat 8 w
  let high := BitVec.ofNat 8 (w / 256)
  if nbits ≤ 8 then [low, 0, 0]
  else if nbits ≤ 16 then (if high = 0xCB then [high, low, 0] else [low, high, 0])
  else [low, high, BitVec.ofNat 8 (w / 65536)]

/-- The instruction the decoder reads from an instruction whose bits are `w`, numbered as
spec/opcode_table.json numbers them. -/
def decodeTableWord (nbits w : Nat) : Option Instr :=
  match decode (tableBytes nbits w) with
  | .ok (i, _) => some i
  | .error _ => none

end Sys2Proof
end

