-- ==== Sys2Proof/Machine/Cells.lean ====
section
/-! DEFINITION. The list operations under every memory access: look a key up, list a byte at a key, and drop a key. The canonical form: keys strictly rising. -/

namespace Sys2Proof.Machine

/-- The byte listed at a key; `none` where nothing is listed, which is what an unlisted key gives. -/
def Memory.lookup : Memory → Nat → Option Byte
  | [], _ => none
  | (k, v) :: rest, a =>
    if a = k then some v else if a < k then none else Memory.lookup rest a

/-- List a byte at a key, in its place. -/
def Memory.store : Memory → Nat → Byte → Memory
  | [], a, v => [(a, v)]
  | (k, w) :: rest, a, v =>
    if a = k then (a, v) :: rest
    else if a < k then (a, v) :: (k, w) :: rest
    else (k, w) :: Memory.store rest a v

/-- Drop a key from the list. -/
def Memory.drop : Memory → Nat → Memory
  | [], _ => []
  | (k, w) :: rest, a =>
    if a = k then rest else if a < k then (k, w) :: rest else (k, w) :: Memory.drop rest a

/-- The canonical form of `State.mem`: keys strictly rising. An unlisted key gives no byte of its own
(`none`), so no listed byte equals what an unlisted one gives. -/
abbrev Memory.wf (m : Memory) : Prop := List.Pairwise (fun p q => p.1 < q.1) m

/-- What an unlisted byte of the ROM image reads as. DESIGN CHOICE, log entry 1. -/
def romBlank : Byte := 0x00

/-- The canonical form of `State.rom`: keys strictly rising, and no listed byte is what an unlisted
one reads as. -/
abbrev Memory.romWf (m : Memory) : Prop := Memory.wf m ∧ ∀ p ∈ m, p.2 ≠ romBlank

/-- The byte of the ROM image at an offset (20_memory.md R131). -/
def State.romByte (s : State) (offset : Nat) : Byte := (Memory.lookup s.rom offset).getD romBlank

/-- The byte of a memory array: the last one written, or the location's initial_memory draw (10_state.md
R76, decision D6). -/
def State.ramByte (s : State) (key : Nat) : Byte :=
  (Memory.lookup s.mem key).getD (Config.initialMemory key)

/-- Write a byte of a memory array (20_memory.md R107). -/
def State.setRam (s : State) (key : Nat) (v : Byte) : State :=
  { s with mem := Memory.store s.mem key v }

end Sys2Proof.Machine
end

