-- ==== Sys2Proof/Machine/Cartridge.lean ====
section
/-! DEFINITION. The cartridge controllers of mappers 0, 1, 3 and 5 (20_memory.md R120 to R132, R150). -/

namespace Sys2Proof.Machine

/-- The mapper families in scope (00_scope.md R4). -/
inductive Mapper where
  | mapper0
  | mapper1
  | mapper3
  | mapper5
  deriving DecidableEq, Repr

/-- The mapper a cartridge type selects (20_memory.md R150); `none` for an unsupported type. -/
def mapperOf (cartType : Byte) : Option Mapper :=
  match cartType.toNat with
  | 0x00 | 0x08 | 0x09 => some .mapper0
  | 0x01 | 0x02 | 0x03 => some .mapper1
  | 0x0F | 0x10 | 0x11 | 0x12 | 0x13 => some .mapper3
  | 0x19 | 0x1A | 0x1B | 0x1C | 0x1D | 0x1E => some .mapper5
  | _ => none

/-- The active mapper. A cartridge of an unsupported type is refused at load (R150), so the default
mapping (R153's pass-through) shows in no machine that was loaded. Log entry 20. -/
def Cart.mapper (c : Cart) : Mapper := (mapperOf c.cartType).getD .mapper0

/-- The rumble cartridges of mapper 5 (20_memory.md R126). -/
def Cart.isRumble (c : Cart) : Bool :=
  c.cartType == 0x1C || c.cartType == 0x1D || c.cartType == 0x1E

/-- The RAM-enable pattern: the low nibble is 0xA (20_memory.md R121, R128). -/
def ramEnablePattern (v : Byte) : Bool := v.extractLsb' 0 4 == 0xA

/-- The offset into the ROM image that a read at `a`, below 0x8000, reaches (20_memory.md R120,
R122, R131); for these `a`, `a - 0x4000` is `a % 0x4000`. -/
def Cart.romOffset (c : Cart) (a : Nat) : Nat :=
  if a < 0x4000 then a
  else
    match c.mapper with
    | .mapper0 => a
    | .mapper1 | .mapper3 | .mapper5 => c.romBank * 0x4000 + a % 0x4000

/-- What an access to 0xA000-0xBFFF reaches (20_memory.md R132). -/
inductive ExtTarget where
  | nothing
  | ram (offset : Nat)
  | clock (select : Nat)
  deriving DecidableEq, Repr

/-- The offset of `a` in a bank of external RAM, wrapped for the 2 KiB RAM (20_memory.md R123, R151;
for mappers 0 and 3 DEDUCED, log entry 7); for these `a`, `a - 0xA000` is `a % 0x2000`. -/
def Cart.ramOffset (c : Cart) (bank a : Nat) : Nat :=
  let offset := bank * 0x2000 + a % 0x2000
  if c.ram2K then offset % 0x800 else offset

/-- What an access to 0xA000-0xBFFF at `a` reaches (20_memory.md R120, R123, R125, R127, R128). -/
def Cart.extTarget (c : Cart) (a : Nat) : ExtTarget :=
  match c.mapper with
  | .mapper0 => if 0 < c.ramBanks then .ram (c.ramOffset 0 a) else .nothing
  | .mapper1 | .mapper5 =>
    if c.ramEn && decide (0 < c.ramBanks) then .ram (c.ramOffset c.ramBank a) else .nothing
  | .mapper3 =>
    if !c.ramEn then .nothing
    else if c.ramBank ≤ 0x03 ∧ 0 < c.ramBanks then .ram (c.ramOffset (c.ramBank % c.ramBanks) a)
    else if 0x08 ≤ c.ramBank ∧ c.ramBank ≤ 0x0C then .clock (c.ramBank - 0x08)
    else .nothing

/-- Clock register `i` (20_memory.md R125). -/
def Rtc.get (r : Rtc) (i : Nat) : Byte :=
  match i with
  | 0 => r.seconds
  | 1 => r.minutes
  | 2 => r.hours
  | 3 => r.dayLow
  | _ => r.dayHigh

/-- Write clock register `i` (20_memory.md R125). -/
def Rtc.put (r : Rtc) (i : Nat) (v : Byte) : Rtc :=
  match i with
  | 0 => { r with seconds := v }
  | 1 => { r with minutes := v }
  | 2 => { r with hours := v }
  | 3 => { r with dayLow := v }
  | _ => { r with dayHigh := v }

/-- Mapper 1's effective banks, computed from its bank registers after each write (20_memory.md
R122, R129). -/
def Cart.recompute1 (c : Cart) : Cart :=
  if c.bankMode then
    { c with romBank := c.bankLo.toNat % c.romBanks, ramBank := c.bankHi.toNat % max c.ramBanks 1 }
  else
    { c with romBank := (c.bankHi.toNat * 32 + c.bankLo.toNat) % c.romBanks, ramBank := 0 }

/-- A write to mapper 1's registers (20_memory.md R121). -/
def Cart.write1 (c : Cart) (a : Nat) (v : Byte) : Cart :=
  let c' :=
    if a < 0x2000 then { c with ramEn := ramEnablePattern v }
    else if a < 0x4000 then
      let lo := v.extractLsb' 0 5
      { c with bankLo := if lo = 0 then 1 else lo }
    else if a < 0x6000 then { c with bankHi := v.extractLsb' 0 2 }
    else { c with bankMode := v.getLsbD 0 }
  c'.recompute1

/-- A write to mapper 3's registers (20_memory.md R124). -/
def Cart.write3 (c : Cart) (a : Nat) (v : Byte) : Cart :=
  if a < 0x2000 then { c with ramEn := ramEnablePattern v }
  else if a < 0x4000 then
    let b := (v.extractLsb' 0 7).toNat
    { c with romBank := (if b = 0 then 1 else b) % c.romBanks }
  else if a < 0x6000 then { c with ramBank := v.toNat }
  else c

/-- Mapper 5's ROM bank from its two registers (20_memory.md R126). -/
def Cart.recompute5 (c : Cart) : Cart :=
  { c with romBank := (c.romHi.toNat * 256 + c.romLo.toNat) % c.romBanks }

/-- A write to mapper 5's registers (20_memory.md R126). -/
def Cart.write5 (c : Cart) (a : Nat) (v : Byte) : Cart :=
  if a < 0x2000 then { c with ramEn := ramEnablePattern v }
  else if a < 0x3000 then { c with romLo := v }.recompute5
  else if a < 0x4000 then { c with romHi := v.extractLsb' 0 1 }.recompute5
  else if a < 0x6000 then
    if c.isRumble then
      { c with rumble := v.getLsbD 3, ramBank := (v.extractLsb' 0 3).toNat % max c.ramBanks 1 }
    else { c with ramBank := (v.extractLsb' 0 4).toNat % max c.ramBanks 1 }
  else c

/-- A write to 0x0000-0x7FFF (20_memory.md R120, R121, R124, R126). -/
def Cart.writeRegister (c : Cart) (a : Nat) (v : Byte) : Cart :=
  match c.mapper with
  | .mapper0 => c
  | .mapper1 => c.write1 a v
  | .mapper3 => c.write3 a v
  | .mapper5 => c.write5 a v

/-- The key of `State.mem` that holds external RAM's byte at an offset. -/
def extKey (offset : Nat) : Nat := 0x10000 + offset

/-- The length of external RAM in bytes (20_memory.md R151). -/
def Cart.externalLength (c : Cart) : Nat := if c.ram2K then 0x800 else c.ramBanks * 0x2000

/-- Whether a key is one of the memory arrays' locations for a cartridge (10_state.md R76). -/
def Cart.hasKey (c : Cart) (key : Nat) : Bool :=
  (0x8000 ≤ key && key < 0xA000) || (0xC000 ≤ key && key < 0xE000)
    || (0xFE00 ≤ key && key < 0xFEA0) || (0xFF00 ≤ key && key < 0xFFFF)
    || (0x10000 ≤ key && key < 0x10000 + c.externalLength)

/-- A read of 0xA000-0xBFFF (20_memory.md R120, R123, R125, R128). -/
def readExt (s : State) (a : Nat) : Byte :=
  match s.cart.extTarget a with
  | .nothing => 0xFF
  | .ram offset => s.ramByte (extKey offset)
  | .clock i =>
    match s.params.rtcModel with
    | .shadow => s.cart.rtc.get i
    | .draw => Config.rtcRead s.tick i

/-- A write to 0xA000-0xBFFF (20_memory.md R120, R123, R125, R128). -/
def writeExt (s : State) (a : Nat) (v : Byte) : State :=
  match s.cart.extTarget a with
  | .nothing => s
  | .ram offset => s.setRam (extKey offset) v
  | .clock i => { s with cart := { s.cart with rtc := s.cart.rtc.put i v } }

end Sys2Proof.Machine
end

