-- ==== Sys2Proof/Machine/IoRegs.lean ====
section
/-! DEFINITION. The I/O region 0xFF00-0xFF7F: which register each address is, what a read gives and what a write does, but for OAM DMA, which reads through the dispatcher and stands in Ops.lean (20_memory.md R136 to R144, 10_state.md R50 to R68, 60_exceptions.md R469). -/

namespace Sys2Proof.Machine

/-- The named registers of the I/O region; `plain` is every address no rule names. -/
inductive IoReg where
  | p1 | sb | sc | div | tima | tma | tac | ifr | audio | lcdc | stat | scy | scx | ly | lyc | dma
  | bgp | obp0 | obp1 | wy | wx | key1 | plain
  deriving DecidableEq, Repr

/-- The register at address `0xFF00 + offset` (10_state.md R51 to R68). -/
def ioRegOf (offset : Nat) : IoReg :=
  match offset with
  | 0x00 => .p1
  | 0x01 => .sb
  | 0x02 => .sc
  | 0x04 => .div
  | 0x05 => .tima
  | 0x06 => .tma
  | 0x07 => .tac
  | 0x0F => .ifr
  | 0x40 => .lcdc
  | 0x41 => .stat
  | 0x42 => .scy
  | 0x43 => .scx
  | 0x44 => .ly
  | 0x45 => .lyc
  | 0x46 => .dma
  | 0x47 => .bgp
  | 0x48 => .obp0
  | 0x49 => .obp1
  | 0x4A => .wy
  | 0x4B => .wx
  | 0x4D => .key1
  | n => if 0x10 ≤ n ∧ n ≤ 0x3F then .audio else .plain

/-- A mode's number in STAT (20_memory.md R138). -/
def PpuMode.number : PpuMode → BitVec 2
  | .hblank => 0
  | .vblank => 1
  | .oamScan => 2
  | .vramAccess => 3

/-- The byte STAT reads (20_memory.md R138). -/
def statByte (s : State) : Byte :=
  (1#1 ++ s.lcd.statEn) ++ (BitVec.ofBool s.ppu.coinc ++ s.ppu.mode.number)

/-- The byte P1 reads (20_memory.md R138). -/
def p1Byte (s : State) : Byte := (3#2 ++ s.pad.sel) ++ s.pad.low

/-- The byte KEY1 reads (10_state.md R52, 20_memory.md R138). -/
def key1Byte (s : State) : Byte :=
  match s.params.bootProfile with
  | .cgb => (BitVec.ofBool s.latch.ds ++ 0x3F#6) ++ s.key1.extractLsb' 0 1
  | .dmg => s.key1

/-- A read of the I/O region at key `a` (20_memory.md R136, R138). -/
def readIo (s : State) (a : Nat) : Byte :=
  match ioRegOf (a % 0x100) with
  | .p1 => p1Byte s
  | .sb => s.serial.sb
  | .sc => s.serial.sc
  | .div => s.timer.div
  | .tima => s.timer.tima
  | .tma => s.timer.tma
  | .tac => s.timer.tac
  | .ifr => s.irq.ifr
  | .lcdc => s.lcd.lcdc
  | .stat => statByte s
  | .scy => s.lcd.scy
  | .scx => s.lcd.scx
  | .ly => s.ppu.ly
  | .lyc => s.lcd.lyc
  | .dma => s.lcd.dma
  | .bgp => s.lcd.bgp
  | .obp0 => s.lcd.obp0
  | .obp1 => s.lcd.obp1
  | .wy => s.lcd.wy
  | .wx => s.lcd.wx
  | .key1 => key1Byte s
  | .audio => s.ramByte a
  | .plain => s.ramByte a

/-- The d-pad's four lines, 1 when pressed: Down, Up, Left, Right (20_memory.md R143). -/
def Buttons.dpad (b : Buttons) : BitVec 4 :=
  (BitVec.ofBool b.down ++ BitVec.ofBool b.up) ++ (BitVec.ofBool b.left ++ BitVec.ofBool b.right)

/-- The buttons' four lines, 1 when pressed: Start, Select, B, A (20_memory.md R143). -/
def Buttons.keys (b : Buttons) : BitVec 4 :=
  (BitVec.ofBool b.start ++ BitVec.ofBool b.select) ++ (BitVec.ofBool b.btnB ++ BitVec.ofBool b.btnA)

/-- The nibble for select bits `sel`: a line reads 0 where a selected button is pressed
(20_memory.md R143). -/
def joypadNibble (sel : BitVec 2) (b : Buttons) : BitVec 4 :=
  let low : BitVec 4 := 0xF
  let low := if sel.getLsbD 0 then low else low &&& ~~~b.dpad
  if sel.getLsbD 1 then low else low &&& ~~~b.keys

/-- A write to P1: the nibble is computed anew only when the select bits change (20_memory.md R143). -/
def writeP1 (s : State) (v : Byte) : State :=
  let sel := v.extractLsb' 4 2
  if sel = s.pad.sel then s
  else { s with pad := { s.pad with sel := sel, low := joypadNibble sel s.pad.buttons } }

/-- The LCD enable bit, LCDC bit 7 (10_state.md R53). -/
def lcdOn (s : State) : Bool := s.lcd.lcdc.getLsbD 7

/-- The PPU after the LCD is switched off: line 0, dot 0, mode HBlank (60_exceptions.md R469). -/
def Ppu.switchOff (p : Ppu) : Ppu := { p with ly := 0, dot := 0, mode := .hblank }

/-- The PPU after the LCD is switched on: the start of line 0 of a new frame, with the two
comparisons made anew (60_exceptions.md R469). -/
def Ppu.switchOn (p : Ppu) (lyc wy : Byte) : Ppu :=
  { p with ly := 0, dot := 0, winLine := 0, coinc := lyc == 0, mode := .oamScan, wyTrig := wy == 0 }

/-- A write to LCDC (20_memory.md R137, 60_exceptions.md R469). -/
def writeLcdc (s : State) (v : Byte) : State :=
  let t := { s with lcd := { s.lcd with lcdc := v } }
  match s.lcd.lcdc.getLsbD 7, v.getLsbD 7 with
  | true, false => { t with ppu := s.ppu.switchOff }
  | false, true => { t with ppu := s.ppu.switchOn s.lcd.lyc s.lcd.wy }
  | _, _ => t

/-- A write to KEY1 (10_state.md R52, 20_memory.md R137). -/
def writeKey1 (s : State) (v : Byte) : State :=
  match s.params.bootProfile with
  | .cgb => { s with key1 := (v.extractLsb' 0 1).setWidth 8 }
  | .dmg => { s with key1 := v }

/-- A write to an audio register: stored, and handed to the APU (10_state.md R67, 60_exceptions.md
R505). -/
def writeAudio (s : State) (a : Nat) (v : Byte) : State :=
  { s.setRam a v with
    out := { s.out with apuWrites := s.out.apuWrites ++ [(BitVec.ofNat 16 a, v)] } }

/-- A write to the I/O region at key `a` (20_memory.md R136, R137), but for the copy a write to DMA
starts. -/
def writeIo (s : State) (a : Nat) (v : Byte) : State :=
  match ioRegOf (a % 0x100) with
  | .p1 => writeP1 s v
  | .sb => { s with serial := { s.serial with sb := v } }
  | .sc => { s with serial := { s.serial with sc := v } }
  | .div => { s with timer := { s.timer with div := 0, divAcc := 0 } }
  | .tima => { s with timer := { s.timer with tima := v } }
  | .tma => { s with timer := { s.timer with tma := v } }
  | .tac => { s with timer := { s.timer with tac := v } }
  | .ifr => { s with irq := { s.irq with ifr := v } }
  | .lcdc => writeLcdc s v
  | .stat => { s with lcd := { s.lcd with statEn := v.extractLsb' 3 4 } }
  | .scy => { s with lcd := { s.lcd with scy := v } }
  | .scx => { s with lcd := { s.lcd with scx := v } }
  | .ly => s
  | .lyc => { s with lcd := { s.lcd with lyc := v } }
  | .dma => { s with lcd := { s.lcd with dma := v } }
  | .bgp => { s with lcd := { s.lcd with bgp := v } }
  | .obp0 => { s with lcd := { s.lcd with obp0 := v } }
  | .obp1 => { s with lcd := { s.lcd with obp1 := v } }
  | .wy => { s with lcd := { s.lcd with wy := v } }
  | .wx => { s with lcd := { s.lcd with wx := v } }
  | .key1 => writeKey1 s v
  | .audio => writeAudio s a v
  | .plain => s.setRam a v

end Sys2Proof.Machine
end

