-- ==== Sys2Proof/Machine/Ops.lean ====
section
/-! DEFINITION. The named operations over memory and the CPU: the address dispatcher, word and stack accesses, how an instruction completes, the fatal fault, and taking an interrupt, the machine's one exception with a handler. -/

namespace Sys2Proof.Machine

/-- The regions of the address space (20_memory.md R105). -/
inductive Region where
  | rom
  | vram
  | external
  | wram
  | echo
  | oam
  | unusable
  | io
  | hram
  | ie
  deriving DecidableEq, Repr

/-- Every address maps to exactly one region (20_memory.md R105). -/
def regionOf (a : Nat) : Region :=
  if a < 0x8000 then .rom
  else if a < 0xA000 then .vram
  else if a < 0xC000 then .external
  else if a < 0xE000 then .wram
  else if a < 0xFE00 then .echo
  else if a < 0xFEA0 then .oam
  else if a < 0xFF00 then .unusable
  else if a < 0xFF80 then .io
  else if a < 0xFFFF then .hram
  else .ie

/-- `MemRead(a, 1)`: the byte the dispatcher gives at an address (00_scope.md R11, 20_memory.md R105
to R113). No read changes any state (R113). The echo range's
`a - 0x2000` (R110) is `0xC000 + a % 0x2000`, and the I/O register's offset `a % 0x100`. -/
def memRead (s : State) (addr : Word) : Byte :=
  let a := addr.toNat
  match regionOf a with
  | .rom => s.romByte (s.cart.romOffset a)
  | .vram => s.ramByte a
  | .external => readExt s a
  | .wram => s.ramByte a
  | .echo => s.ramByte (0xC000 + a % 0x2000)
  | .oam => s.ramByte a
  | .unusable => Config.unusableRead s.tick a
  | .io => readIo s a
  | .hram => s.ramByte a
  | .ie => s.irq.ie

/-- Byte `i` of the OAM DMA copy from page `v` (20_memory.md R139). -/
def oamDmaByte (v : Byte) (s : State) (i : Nat) : State :=
  s.setRam (0xFE00 + i) (memRead s (BitVec.ofNat 16 (v.toNat * 256 + i)))

/-- OAM DMA: 160 bytes, read through the dispatcher from page `v` into OAM, at once (20_memory.md
R139). -/
def oamDma (s : State) (v : Byte) : State := (List.range 160).foldl (oamDmaByte v) s

/-- A CPU write to the I/O region: the register's own action (`writeIo`), and after a write to DMA
the copy (20_memory.md R137, R139). -/
def writeIoAction (s : State) (a : Nat) (v : Byte) : State :=
  if ioRegOf (a % 0x100) = .dma then oamDma (writeIo s a v) v else writeIo s a v

/-- `MemWrite(a, 1, v)`: give a byte to the dispatcher at an address, with the side effects of its
region (00_scope.md R11, 20_memory.md R105 to R113). -/
def memWrite (s : State) (addr : Word) (v : Byte) : State :=
  let a := addr.toNat
  match regionOf a with
  | .rom => { s with cart := s.cart.writeRegister a v }
  | .vram => s.setRam a v
  | .external => writeExt s a v
  | .wram => s.setRam a v
  | .echo => s.setRam (0xC000 + a % 0x2000) v
  | .oam => s.setRam a v
  | .unusable => s
  | .io => writeIoAction s a v
  | .hram => s.setRam a v
  | .ie => { s with irq := { s.irq with ie := v } }

/-- `MemWrite(a, 2, v)`: the low byte, then the high byte at the next address, which wraps
(20_memory.md R101, R103). -/
def memWrite16 (s : State) (addr v : Word) : State :=
  memWrite (memWrite s addr (lowByte v)) (addr + 1) (highByte v)

/-- `MemInc(a)`: read, write one more; gives the old byte (20_memory.md R108). -/
def memInc (s : State) (addr : Word) : Byte × State :=
  let v := memRead s addr
  (v, memWrite s addr (v + 1))

/-- `MemDec(a)`: read, write one less; gives the old byte (20_memory.md R108). -/
def memDec (s : State) (addr : Word) : Byte × State :=
  let v := memRead s addr
  (v, memWrite s addr (v - 1))

/-- Set SP. -/
def State.setSp (s : State) (v : Word) : State := { s with regs := { s.regs with sp := v } }

/-- `push16(v)`: the high byte to SP-1, then the low byte to SP-2 (44_control.md R380, 40_load.md
R243). -/
def push16 (s : State) (v : Word) : State :=
  let s1 := s.setSp (s.regs.sp - 1)
  let s2 := memWrite s1 s1.regs.sp (highByte v)
  let s3 := s2.setSp (s2.regs.sp - 1)
  memWrite s3 s3.regs.sp (lowByte v)

/-- The word `pop16()` reads: the low byte at SP, the high byte at SP+1 (44_control.md R380). -/
def stackTop (s : State) : Word := wordOf (memRead s (s.regs.sp + 1)) (memRead s s.regs.sp)

/-- SP after `pop16()` (44_control.md R380). -/
def dropTop (s : State) : State := s.setSp (s.regs.sp + 2)

/-- 1 when the halt bug shifts this fetch, else 0: `hbused` (30_encoding.md R191). -/
def hbUsed (s : State) : Word := if s.latch.haltBug then 1 else 0

/-- `next_pc`, the address of the following instruction (30_encoding.md R192). -/
def nextPc (s : State) (len : Nat) : Word := s.regs.pc + BitVec.ofNat 16 len - hbUsed s

/-- The fetch clears the halt-bug latch (30_encoding.md R191). -/
def State.clearHaltBug (s : State) : State := { s with latch := { s.latch with haltBug := false } }

/-- Set PC and record the cycles the step took (30_encoding.md R190, R192). -/
def finish (s : State) (pc : Word) (cycles : Nat) : State :=
  { s with regs := { s.regs with pc := pc }, out := { s.out with cycles := cycles } }

/-- An instruction of `len` bytes and `cycles` cycles with effect `f` that does not set PC itself:
PC advances by the length (30_encoding.md R192). -/
def complete (len cycles : Nat) (f : State → State) (s : State) : Answer State :=
  .next (finish (f s.clearHaltBug) (nextPc s len) cycles)

/-- A taken transfer: effect `f`, then PC is the target (44_control.md R380). -/
def transfer (cycles : Nat) (target : Word) (f : State → State) (s : State) : Answer State :=
  .next (finish (f s.clearHaltBug) target cycles)

/-- `raise Fatal(UndefinedOpcode, op)`: nothing changes and the machine never steps again
(00_scope.md R12, 45_system.md R407, 60_exceptions.md R430). -/
def raiseFatal (op : Byte) (_s : State) : Answer State := .fault (.undefinedOpcode op)

/-- The pending set `IE & IF & 0x1F` (60_exceptions.md R421). -/
def pendingSet (s : State) : Byte := s.irq.ie &&& s.irq.ifr &&& 0x1F

/-- Whether an interrupt is pending. -/
def hasPending (s : State) : Bool := pendingSet s != 0

/-- The lowest set bit of a nonzero pending set (60_exceptions.md R423). -/
def lowestBit (p : Byte) : Nat :=
  if p.getLsbD 0 then 0
  else if p.getLsbD 1 then 1
  else if p.getLsbD 2 then 2
  else if p.getLsbD 3 then 3
  else 4

/-- The vector of source `k` (60_exceptions.md R420, R424). -/
def vectorOf (k : Nat) : Word := BitVec.ofNat 16 (0x40 + 8 * k)

/-- The cycles of an interrupt dispatch (60_exceptions.md R425). -/
def dispatchCycles : Nat := 20

/-- The cycles of a halted quantum (45_system.md R403). -/
def haltedCycles : Nat := 4

/-- Clear IF bit `k`. -/
def clearRequest (s : State) (k : Nat) : State :=
  { s with irq := { s.irq with ifr := s.irq.ifr &&& ~~~(1#8 <<< k) } }

/-- Set bits of IF: a device's request (60_exceptions.md R420). -/
def State.request (s : State) (bits : Byte) : State :=
  { s with irq := { s.irq with ifr := s.irq.ifr ||| bits } }

/-- TAKING AN INTERRUPT (60_exceptions.md R424): choose the source, clear IME and HALT, push PC less
the halt-bug latch, clear the source's request, go to its vector; 20 cycles (R425). -/
def dispatchInterrupt (s : State) : State :=
  let k := lowestBit (pendingSet s)
  let ret := s.regs.pc - hbUsed s
  let s1 := { s with latch := { s.latch with ime := false, halted := false, haltBug := false } }
  finish (clearRequest (push16 s1 ret) k) (vectorOf k) dispatchCycles

/-- RETURNING FROM AN INTERRUPT (44_control.md R390, 60_exceptions.md R426): PC is popped and IME set
at once. -/
def returnFromInterrupt (s : State) : State :=
  let t := dropTop s
  { t with latch := { t.latch with ime := true, imePending := false } }

/-- A halted quantum: nothing changes but the cycles spent (45_system.md R403). -/
def haltedQuantum (s : State) : State := { s with out := { s.out with cycles := haltedCycles } }

end Sys2Proof.Machine
end

