-- ==== Sys2Proof/Machine/Operands.lean ====
section
/-! DEFINITION. Every operand form: 8-bit registers, register pairs, conditions, immediates as addresses, and the byte at HL (30_encoding.md R183 to R186, 40_load.md R220, 41_alu8.md R260). -/

namespace Sys2Proof.Machine

/-- The 8-bit registers a field can name: values 0 to 5 and 7 (30_encoding.md R184). -/
inductive Reg8 where
  | b | c | d | e | h | l | a
  deriving DecidableEq, Repr

/-- The pairs of the field `rp` (30_encoding.md R186). -/
inductive Pair where
  | bc | de | hl | sp
  deriving DecidableEq, Repr

/-- The pairs of the field `rp2` (30_encoding.md R186). -/
inductive StackPair where
  | bc | de | hl | af
  deriving DecidableEq, Repr

/-- The condition field (30_encoding.md R185). -/
inductive Cond where
  | nz | z | nc | c
  deriving DecidableEq, Repr

/-- `x[r]` (00_scope.md R10). -/
def Regs.get (r : Regs) : Reg8 → Byte
  | .b => r.b
  | .c => r.c
  | .d => r.d
  | .e => r.e
  | .h => r.h
  | .l => r.l
  | .a => r.a

/-- `x[r] <- v` (00_scope.md R10). -/
def Regs.put (r : Regs) (k : Reg8) (v : Byte) : Regs :=
  match k with
  | .b => { r with b := v }
  | .c => { r with c := v }
  | .d => { r with d := v }
  | .e => { r with e := v }
  | .h => { r with h := v }
  | .l => { r with l := v }
  | .a => { r with a := v }

/-- The pairs as 16-bit values, the first-named register high (10_state.md R31). -/
def Regs.getPair (r : Regs) : Pair → Word
  | .bc => wordOf r.b r.c
  | .de => wordOf r.d r.e
  | .hl => wordOf r.h r.l
  | .sp => r.sp

/-- Writing a pair writes both halves (10_state.md R31). -/
def Regs.putPair (r : Regs) (p : Pair) (v : Word) : Regs :=
  match p with
  | .bc => { r with b := highByte v, c := lowByte v }
  | .de => { r with d := highByte v, e := lowByte v }
  | .hl => { r with h := highByte v, l := lowByte v }
  | .sp => { r with sp := v }

/-- The pairs PUSH stores; AF's low byte is F (10_state.md R31, R32). -/
def Regs.getStackPair (r : Regs) : StackPair → Word
  | .bc => wordOf r.b r.c
  | .de => wordOf r.d r.e
  | .hl => wordOf r.h r.l
  | .af => wordOf r.a r.flags.toByte

/-- The pairs POP writes; F keeps its four flag bits only (40_load.md R244). -/
def Regs.putStackPair (r : Regs) (p : StackPair) (v : Word) : Regs :=
  match p with
  | .bc => { r with b := highByte v, c := lowByte v }
  | .de => { r with d := highByte v, e := lowByte v }
  | .hl => { r with h := highByte v, l := lowByte v }
  | .af => { r with a := highByte v, flags := Flags.ofByte (lowByte v) }

/-- `cond(cc)` (30_encoding.md R185). -/
def Cond.holds (cc : Cond) (f : Flags) : Bool :=
  match cc with
  | .nz => !f.z
  | .z => f.z
  | .nc => !f.c
  | .c => f.c

/-- Replace the register file. -/
def State.withRegs (s : State) (r : Regs) : State := { s with regs := r }

/-- Read an 8-bit register. -/
def State.reg (s : State) (k : Reg8) : Byte := s.regs.get k

/-- Write an 8-bit register. -/
def State.setReg (s : State) (k : Reg8) (v : Byte) : State := s.withRegs (s.regs.put k v)

/-- Read a pair. -/
def State.pair (s : State) (p : Pair) : Word := s.regs.getPair p

/-- Write a pair. -/
def State.setPair (s : State) (p : Pair) (v : Word) : State := s.withRegs (s.regs.putPair p v)

/-- Write the four flags. -/
def State.setFlags (s : State) (f : Flags) : State := s.withRegs { s.regs with flags := f }

/-- The address HL. -/
def State.hl (s : State) : Word := s.regs.getPair .hl

/-- The operand form (HL): the byte at HL (30_encoding.md R184). -/
def State.atHl (s : State) : Byte := memRead s s.hl

/-- The high-page address of an offset (30_encoding.md R183). -/
def highPage (offset : Byte) : Word := 0xFF00#16 + zext16 offset

end Sys2Proof.Machine
end

