-- ==== Sys2Proof/Machine/Alu16.lean ====
section
/-! DEFINITION. 16-bit arithmetic (42_alu16.md R320 to R325). -/

namespace Sys2Proof.Machine

/-- ADD HL,rr (R321). -/
def addHlPair (p : Pair) : State → Answer State :=
  complete 1 8 fun t =>
    let r := addHl16 t.hl (t.pair p) t.regs.flags
    (t.setPair .hl r.1).setFlags r.2

/-- INC rr and DEC rr (R322, R323). -/
def addToPair (p : Pair) (delta : Word) : State → Answer State :=
  complete 1 8 fun t => t.setPair p (t.pair p + delta)

/-- ADD SP,e8 (R324). -/
def addSpImm (n : Byte) : State → Answer State :=
  complete 2 16 fun t =>
    let r := spAdd t.regs.sp n
    (t.setSp r.1).setFlags r.2

/-- LD HL,SP+e8 (R325). -/
def loadHlSpImm (n : Byte) : State → Answer State :=
  complete 2 12 fun t =>
    let r := spAdd t.regs.sp n
    (t.setPair .hl r.1).setFlags r.2

/-- INC BC (R322). -/
def execIncBC (s : State) : Answer State := addToPair .bc (1) s

/-- ADD HL,BC (R321). -/
def execAddHLBC (s : State) : Answer State := addHlPair .bc s

/-- DEC BC (R323). -/
def execDecBC (s : State) : Answer State := addToPair .bc (-1) s

/-- INC DE (R322). -/
def execIncDE (s : State) : Answer State := addToPair .de (1) s

/-- ADD HL,DE (R321). -/
def execAddHLDE (s : State) : Answer State := addHlPair .de s

/-- DEC DE (R323). -/
def execDecDE (s : State) : Answer State := addToPair .de (-1) s

/-- INC HL (R322). -/
def execIncHL (s : State) : Answer State := addToPair .hl (1) s

/-- ADD HL,HL (R321). -/
def execAddHLHL (s : State) : Answer State := addHlPair .hl s

/-- DEC HL (R323). -/
def execDecHL (s : State) : Answer State := addToPair .hl (-1) s

/-- INC SP (R322). -/
def execIncSP (s : State) : Answer State := addToPair .sp (1) s

/-- ADD HL,SP (R321). -/
def execAddHLSP (s : State) : Answer State := addHlPair .sp s

/-- DEC SP (R323). -/
def execDecSP (s : State) : Answer State := addToPair .sp (-1) s

/-- ADD SP,e8 (R324). -/
def execAddSPE8 (e8 : Byte) (s : State) : Answer State := addSpImm e8 s

/-- LD HL,SP+e8 (R325). -/
def execLdHLSPE8 (e8 : Byte) (s : State) : Answer State := loadHlSpImm e8 s

end Sys2Proof.Machine
end

