-- ==== Sys2Proof/Machine/Alu8.lean ====
section
/-! DEFINITION. 8-bit arithmetic and logic (41_alu8.md R260 to R295). -/

namespace Sys2Proof.Machine

/-- A and the flags after an ALU operation with operand `v` (R260). -/
def aluWith (op : AluOp) (v : Byte) (t : State) : State :=
  let r := op.apply t.regs.a v t.regs.flags.c
  t.withRegs { t.regs with a := r.1, flags := r.2 }

/-- An ALU operation with a register (R264, R267, R270, R273, R276, R279, R282, R285). -/
def aluReg (op : AluOp) (r : Reg8) : State → Answer State :=
  complete 1 4 fun t => aluWith op (t.reg r) t

/-- An ALU operation with the byte at HL (R265, R268, R271, R274, R277, R280, R283, R286). -/
def aluAtHl (op : AluOp) : State → Answer State := complete 1 8 fun t => aluWith op t.atHl t

/-- An ALU operation with an immediate byte (R266, R269, R272, R275, R278, R281, R284, R287). -/
def aluImm (op : AluOp) (n : Byte) : State → Answer State := complete 2 8 (aluWith op n)

/-- INC r (R288). -/
def incReg (dst : Reg8) : State → Answer State :=
  complete 1 4 fun t => (t.setReg dst (t.reg dst + 1)).setFlags (incFlags (t.reg dst) t.regs.flags)

/-- DEC r (R290). -/
def decReg (dst : Reg8) : State → Answer State :=
  complete 1 4 fun t => (t.setReg dst (t.reg dst - 1)).setFlags (decFlags (t.reg dst) t.regs.flags)

/-- INC (HL) (R289). -/
def incAtHl : State → Answer State :=
  complete 1 12 fun t =>
    let (v, t') := memInc t t.hl
    t'.setFlags (incFlags v t.regs.flags)

/-- DEC (HL) (R291). -/
def decAtHl : State → Answer State :=
  complete 1 12 fun t =>
    let (v, t') := memDec t t.hl
    t'.setFlags (decFlags v t.regs.flags)

/-- DAA (R292). -/
def decimalAdjust (t : State) : State :=
  let r := daa8 t.regs.a t.regs.flags
  t.withRegs { t.regs with a := r.1, flags := r.2 }

/-- CPL (R293). -/
def complementA (t : State) : State :=
  t.withRegs { t.regs with a := ~~~t.regs.a, flags := { t.regs.flags with n := true, h := true } }

/-- SCF (R294). -/
def setCarry (t : State) : State :=
  t.setFlags { t.regs.flags with n := false, h := false, c := true }

/-- CCF (R295). -/
def complementCarry (t : State) : State :=
  t.setFlags { t.regs.flags with n := false, h := false, c := !t.regs.flags.c }

/-- INC B (R288). -/
def execIncB (s : State) : Answer State := incReg .b s

/-- DEC B (R290). -/
def execDecB (s : State) : Answer State := decReg .b s

/-- INC C (R288). -/
def execIncC (s : State) : Answer State := incReg .c s

/-- DEC C (R290). -/
def execDecC (s : State) : Answer State := decReg .c s

/-- INC D (R288). -/
def execIncD (s : State) : Answer State := incReg .d s

/-- DEC D (R290). -/
def execDecD (s : State) : Answer State := decReg .d s

/-- INC E (R288). -/
def execIncE (s : State) : Answer State := incReg .e s

/-- DEC E (R290). -/
def execDecE (s : State) : Answer State := decReg .e s

/-- INC H (R288). -/
def execIncH (s : State) : Answer State := incReg .h s

/-- DEC H (R290). -/
def execDecH (s : State) : Answer State := decReg .h s

/-- DAA (R292). -/
def execDaa (s : State) : Answer State := complete 1 4 decimalAdjust s

/-- INC L (R288). -/
def execIncL (s : State) : Answer State := incReg .l s

/-- DEC L (R290). -/
def execDecL (s : State) : Answer State := decReg .l s

/-- CPL (R293). -/
def execCpl (s : State) : Answer State := complete 1 4 complementA s

/-- INC (HL) (R289). -/
def execIncIndHL (s : State) : Answer State := incAtHl s

/-- DEC (HL) (R291). -/
def execDecIndHL (s : State) : Answer State := decAtHl s

/-- SCF (R294). -/
def execScf (s : State) : Answer State := complete 1 4 setCarry s

/-- INC A (R288). -/
def execIncA (s : State) : Answer State := incReg .a s

/-- DEC A (R290). -/
def execDecA (s : State) : Answer State := decReg .a s

/-- CCF (R295). -/
def execCcf (s : State) : Answer State := complete 1 4 complementCarry s

/-- ADD A,B (R264). -/
def execAddAB (s : State) : Answer State := aluReg .add .b s

/-- ADD A,C (R264). -/
def execAddAC (s : State) : Answer State := aluReg .add .c s

/-- ADD A,D (R264). -/
def execAddAD (s : State) : Answer State := aluReg .add .d s

/-- ADD A,E (R264). -/
def execAddAE (s : State) : Answer State := aluReg .add .e s

/-- ADD A,H (R264). -/
def execAddAH (s : State) : Answer State := aluReg .add .h s

/-- ADD A,L (R264). -/
def execAddAL (s : State) : Answer State := aluReg .add .l s

/-- ADD A,(HL) (R265). -/
def execAddAIndHL (s : State) : Answer State := aluAtHl .add s

/-- ADD A,A (R264). -/
def execAddAA (s : State) : Answer State := aluReg .add .a s

/-- ADC A,B (R267). -/
def execAdcAB (s : State) : Answer State := aluReg .adc .b s

/-- ADC A,C (R267). -/
def execAdcAC (s : State) : Answer State := aluReg .adc .c s

/-- ADC A,D (R267). -/
def execAdcAD (s : State) : Answer State := aluReg .adc .d s

/-- ADC A,E (R267). -/
def execAdcAE (s : State) : Answer State := aluReg .adc .e s

/-- ADC A,H (R267). -/
def execAdcAH (s : State) : Answer State := aluReg .adc .h s

/-- ADC A,L (R267). -/
def execAdcAL (s : State) : Answer State := aluReg .adc .l s

/-- ADC A,(HL) (R268). -/
def execAdcAIndHL (s : State) : Answer State := aluAtHl .adc s

/-- ADC A,A (R267). -/
def execAdcAA (s : State) : Answer State := aluReg .adc .a s

/-- SUB B (R270). -/
def execSubB (s : State) : Answer State := aluReg .sub .b s

/-- SUB C (R270). -/
def execSubC (s : State) : Answer State := aluReg .sub .c s

/-- SUB D (R270). -/
def execSubD (s : State) : Answer State := aluReg .sub .d s

/-- SUB E (R270). -/
def execSubE (s : State) : Answer State := aluReg .sub .e s

/-- SUB H (R270). -/
def execSubH (s : State) : Answer State := aluReg .sub .h s

/-- SUB L (R270). -/
def execSubL (s : State) : Answer State := aluReg .sub .l s

/-- SUB (HL) (R271). -/
def execSubIndHL (s : State) : Answer State := aluAtHl .sub s

/-- SUB A (R270). -/
def execSubA (s : State) : Answer State := aluReg .sub .a s

/-- SBC A,B (R273). -/
def execSbcAB (s : State) : Answer State := aluReg .sbc .b s

/-- SBC A,C (R273). -/
def execSbcAC (s : State) : Answer State := aluReg .sbc .c s

/-- SBC A,D (R273). -/
def execSbcAD (s : State) : Answer State := aluReg .sbc .d s

/-- SBC A,E (R273). -/
def execSbcAE (s : State) : Answer State := aluReg .sbc .e s

/-- SBC A,H (R273). -/
def execSbcAH (s : State) : Answer State := aluReg .sbc .h s

/-- SBC A,L (R273). -/
def execSbcAL (s : State) : Answer State := aluReg .sbc .l s

/-- SBC A,(HL) (R274). -/
def execSbcAIndHL (s : State) : Answer State := aluAtHl .sbc s

/-- SBC A,A (R273). -/
def execSbcAA (s : State) : Answer State := aluReg .sbc .a s

/-- AND B (R276). -/
def execAndB (s : State) : Answer State := aluReg .and .b s

/-- AND C (R276). -/
def execAndC (s : State) : Answer State := aluReg .and .c s

/-- AND D (R276). -/
def execAndD (s : State) : Answer State := aluReg .and .d s

/-- AND E (R276). -/
def execAndE (s : State) : Answer State := aluReg .and .e s

/-- AND H (R276). -/
def execAndH (s : State) : Answer State := aluReg .and .h s

/-- AND L (R276). -/
def execAndL (s : State) : Answer State := aluReg .and .l s

/-- AND (HL) (R277). -/
def execAndIndHL (s : State) : Answer State := aluAtHl .and s

/-- AND A (R276). -/
def execAndA (s : State) : Answer State := aluReg .and .a s

/-- XOR B (R279). -/
def execXorB (s : State) : Answer State := aluReg .xor .b s

/-- XOR C (R279). -/
def execXorC (s : State) : Answer State := aluReg .xor .c s

/-- XOR D (R279). -/
def execXorD (s : State) : Answer State := aluReg .xor .d s

/-- XOR E (R279). -/
def execXorE (s : State) : Answer State := aluReg .xor .e s

/-- XOR H (R279). -/
def execXorH (s : State) : Answer State := aluReg .xor .h s

/-- XOR L (R279). -/
def execXorL (s : State) : Answer State := aluReg .xor .l s

/-- XOR (HL) (R280). -/
def execXorIndHL (s : State) : Answer State := aluAtHl .xor s

/-- XOR A (R279). -/
def execXorA (s : State) : Answer State := aluReg .xor .a s

/-- OR B (R282). -/
def execOrB (s : State) : Answer State := aluReg .or .b s

/-- OR C (R282). -/
def execOrC (s : State) : Answer State := aluReg .or .c s

/-- OR D (R282). -/
def execOrD (s : State) : Answer State := aluReg .or .d s

/-- OR E (R282). -/
def execOrE (s : State) : Answer State := aluReg .or .e s

/-- OR H (R282). -/
def execOrH (s : State) : Answer State := aluReg .or .h s

/-- OR L (R282). -/
def execOrL (s : State) : Answer State := aluReg .or .l s

/-- OR (HL) (R283). -/
def execOrIndHL (s : State) : Answer State := aluAtHl .or s

/-- OR A (R282). -/
def execOrA (s : State) : Answer State := aluReg .or .a s

/-- CP B (R285). -/
def execCpB (s : State) : Answer State := aluReg .cp .b s

/-- CP C (R285). -/
def execCpC (s : State) : Answer State := aluReg .cp .c s

/-- CP D (R285). -/
def execCpD (s : State) : Answer State := aluReg .cp .d s

/-- CP E (R285). -/
def execCpE (s : State) : Answer State := aluReg .cp .e s

/-- CP H (R285). -/
def execCpH (s : State) : Answer State := aluReg .cp .h s

/-- CP L (R285). -/
def execCpL (s : State) : Answer State := aluReg .cp .l s

/-- CP (HL) (R286). -/
def execCpIndHL (s : State) : Answer State := aluAtHl .cp s

/-- CP A (R285). -/
def execCpA (s : State) : Answer State := aluReg .cp .a s

/-- ADD A,d8 (R266). -/
def execAddAD8 (d8 : Byte) (s : State) : Answer State := aluImm .add d8 s

/-- ADC A,d8 (R269). -/
def execAdcAD8 (d8 : Byte) (s : State) : Answer State := aluImm .adc d8 s

/-- SUB d8 (R272). -/
def execSubD8 (d8 : Byte) (s : State) : Answer State := aluImm .sub d8 s

/-- SBC A,d8 (R275). -/
def execSbcAD8 (d8 : Byte) (s : State) : Answer State := aluImm .sbc d8 s

/-- AND d8 (R278). -/
def execAndD8 (d8 : Byte) (s : State) : Answer State := aluImm .and d8 s

/-- XOR d8 (R281). -/
def execXorD8 (d8 : Byte) (s : State) : Answer State := aluImm .xor d8 s

/-- OR d8 (R284). -/
def execOrD8 (d8 : Byte) (s : State) : Answer State := aluImm .or d8 s

/-- CP d8 (R287). -/
def execCpD8 (d8 : Byte) (s : State) : Answer State := aluImm .cp d8 s

end Sys2Proof.Machine
end

