-- ==== Sys2Proof/Machine/Bits.lean ====
section
/-! DEFINITION. BIT, RES and SET (43_rotate_bit.md R361 to R366). -/

namespace Sys2Proof.Machine

/-- BIT b,r (R361). -/
def testBitReg (b : Nat) (r : Reg8) : State → Answer State :=
  complete 2 8 fun t => t.setFlags (bitFlags (t.reg r) b t.regs.flags)

/-- BIT b,(HL) (R362). -/
def testBitAtHl (b : Nat) : State → Answer State :=
  complete 2 12 fun t => t.setFlags (bitFlags t.atHl b t.regs.flags)

/-- RES b,r (R363). -/
def clearBitReg (b : Nat) (r : Reg8) : State → Answer State :=
  complete 2 8 fun t => t.setReg r (clearBit (t.reg r) b)

/-- RES b,(HL): the byte is written even when the bit was clear (R364). -/
def clearBitAtHl (b : Nat) : State → Answer State :=
  complete 2 16 fun t => memWrite t t.hl (clearBit t.atHl b)

/-- SET b,r (R365). -/
def setBitReg (b : Nat) (r : Reg8) : State → Answer State :=
  complete 2 8 fun t => t.setReg r (setBit (t.reg r) b)

/-- SET b,(HL) (R366). -/
def setBitAtHl (b : Nat) : State → Answer State :=
  complete 2 16 fun t => memWrite t t.hl (setBit t.atHl b)

/-- BIT 0,B (R361). -/
def execBit0B (s : State) : Answer State := testBitReg 0 .b s

/-- BIT 0,C (R361). -/
def execBit0C (s : State) : Answer State := testBitReg 0 .c s

/-- BIT 0,D (R361). -/
def execBit0D (s : State) : Answer State := testBitReg 0 .d s

/-- BIT 0,E (R361). -/
def execBit0E (s : State) : Answer State := testBitReg 0 .e s

/-- BIT 0,H (R361). -/
def execBit0H (s : State) : Answer State := testBitReg 0 .h s

/-- BIT 0,L (R361). -/
def execBit0L (s : State) : Answer State := testBitReg 0 .l s

/-- BIT 0,(HL) (R362). -/
def execBit0IndHL (s : State) : Answer State := testBitAtHl 0 s

/-- BIT 0,A (R361). -/
def execBit0A (s : State) : Answer State := testBitReg 0 .a s

/-- BIT 1,B (R361). -/
def execBit1B (s : State) : Answer State := testBitReg 1 .b s

/-- BIT 1,C (R361). -/
def execBit1C (s : State) : Answer State := testBitReg 1 .c s

/-- BIT 1,D (R361). -/
def execBit1D (s : State) : Answer State := testBitReg 1 .d s

/-- BIT 1,E (R361). -/
def execBit1E (s : State) : Answer State := testBitReg 1 .e s

/-- BIT 1,H (R361). -/
def execBit1H (s : State) : Answer State := testBitReg 1 .h s

/-- BIT 1,L (R361). -/
def execBit1L (s : State) : Answer State := testBitReg 1 .l s

/-- BIT 1,(HL) (R362). -/
def execBit1IndHL (s : State) : Answer State := testBitAtHl 1 s

/-- BIT 1,A (R361). -/
def execBit1A (s : State) : Answer State := testBitReg 1 .a s

/-- BIT 2,B (R361). -/
def execBit2B (s : State) : Answer State := testBitReg 2 .b s

/-- BIT 2,C (R361). -/
def execBit2C (s : State) : Answer State := testBitReg 2 .c s

/-- BIT 2,D (R361). -/
def execBit2D (s : State) : Answer State := testBitReg 2 .d s

/-- BIT 2,E (R361). -/
def execBit2E (s : State) : Answer State := testBitReg 2 .e s

/-- BIT 2,H (R361). -/
def execBit2H (s : State) : Answer State := testBitReg 2 .h s

/-- BIT 2,L (R361). -/
def execBit2L (s : State) : Answer State := testBitReg 2 .l s

/-- BIT 2,(HL) (R362). -/
def execBit2IndHL (s : State) : Answer State := testBitAtHl 2 s

/-- BIT 2,A (R361). -/
def execBit2A (s : State) : Answer State := testBitReg 2 .a s

/-- BIT 3,B (R361). -/
def execBit3B (s : State) : Answer State := testBitReg 3 .b s

/-- BIT 3,C (R361). -/
def execBit3C (s : State) : Answer State := testBitReg 3 .c s

/-- BIT 3,D (R361). -/
def execBit3D (s : State) : Answer State := testBitReg 3 .d s

/-- BIT 3,E (R361). -/
def execBit3E (s : State) : Answer State := testBitReg 3 .e s

/-- BIT 3,H (R361). -/
def execBit3H (s : State) : Answer State := testBitReg 3 .h s

/-- BIT 3,L (R361). -/
def execBit3L (s : State) : Answer State := testBitReg 3 .l s

/-- BIT 3,(HL) (R362). -/
def execBit3IndHL (s : State) : Answer State := testBitAtHl 3 s

/-- BIT 3,A (R361). -/
def execBit3A (s : State) : Answer State := testBitReg 3 .a s

/-- BIT 4,B (R361). -/
def execBit4B (s : State) : Answer State := testBitReg 4 .b s

/-- BIT 4,C (R361). -/
def execBit4C (s : State) : Answer State := testBitReg 4 .c s

/-- BIT 4,D (R361). -/
def execBit4D (s : State) : Answer State := testBitReg 4 .d s

/-- BIT 4,E (R361). -/
def execBit4E (s : State) : Answer State := testBitReg 4 .e s

/-- BIT 4,H (R361). -/
def execBit4H (s : State) : Answer State := testBitReg 4 .h s

/-- BIT 4,L (R361). -/
def execBit4L (s : State) : Answer State := testBitReg 4 .l s

/-- BIT 4,(HL) (R362). -/
def execBit4IndHL (s : State) : Answer State := testBitAtHl 4 s

/-- BIT 4,A (R361). -/
def execBit4A (s : State) : Answer State := testBitReg 4 .a s

/-- BIT 5,B (R361). -/
def execBit5B (s : State) : Answer State := testBitReg 5 .b s

/-- BIT 5,C (R361). -/
def execBit5C (s : State) : Answer State := testBitReg 5 .c s

/-- BIT 5,D (R361). -/
def execBit5D (s : State) : Answer State := testBitReg 5 .d s

/-- BIT 5,E (R361). -/
def execBit5E (s : State) : Answer State := testBitReg 5 .e s

/-- BIT 5,H (R361). -/
def execBit5H (s : State) : Answer State := testBitReg 5 .h s

/-- BIT 5,L (R361). -/
def execBit5L (s : State) : Answer State := testBitReg 5 .l s

/-- BIT 5,(HL) (R362). -/
def execBit5IndHL (s : State) : Answer State := testBitAtHl 5 s

/-- BIT 5,A (R361). -/
def execBit5A (s : State) : Answer State := testBitReg 5 .a s

/-- BIT 6,B (R361). -/
def execBit6B (s : State) : Answer State := testBitReg 6 .b s

/-- BIT 6,C (R361). -/
def execBit6C (s : State) : Answer State := testBitReg 6 .c s

/-- BIT 6,D (R361). -/
def execBit6D (s : State) : Answer State := testBitReg 6 .d s

/-- BIT 6,E (R361). -/
def execBit6E (s : State) : Answer State := testBitReg 6 .e s

/-- BIT 6,H (R361). -/
def execBit6H (s : State) : Answer State := testBitReg 6 .h s

/-- BIT 6,L (R361). -/
def execBit6L (s : State) : Answer State := testBitReg 6 .l s

/-- BIT 6,(HL) (R362). -/
def execBit6IndHL (s : State) : Answer State := testBitAtHl 6 s

/-- BIT 6,A (R361). -/
def execBit6A (s : State) : Answer State := testBitReg 6 .a s

/-- BIT 7,B (R361). -/
def execBit7B (s : State) : Answer State := testBitReg 7 .b s

/-- BIT 7,C (R361). -/
def execBit7C (s : State) : Answer State := testBitReg 7 .c s

/-- BIT 7,D (R361). -/
def execBit7D (s : State) : Answer State := testBitReg 7 .d s

/-- BIT 7,E (R361). -/
def execBit7E (s : State) : Answer State := testBitReg 7 .e s

/-- BIT 7,H (R361). -/
def execBit7H (s : State) : Answer State := testBitReg 7 .h s

/-- BIT 7,L (R361). -/
def execBit7L (s : State) : Answer State := testBitReg 7 .l s

/-- BIT 7,(HL) (R362). -/
def execBit7IndHL (s : State) : Answer State := testBitAtHl 7 s

/-- BIT 7,A (R361). -/
def execBit7A (s : State) : Answer State := testBitReg 7 .a s

/-- RES 0,B (R363). -/
def execRes0B (s : State) : Answer State := clearBitReg 0 .b s

/-- RES 0,C (R363). -/
def execRes0C (s : State) : Answer State := clearBitReg 0 .c s

/-- RES 0,D (R363). -/
def execRes0D (s : State) : Answer State := clearBitReg 0 .d s

/-- RES 0,E (R363). -/
def execRes0E (s : State) : Answer State := clearBitReg 0 .e s

/-- RES 0,H (R363). -/
def execRes0H (s : State) : Answer State := clearBitReg 0 .h s

/-- RES 0,L (R363). -/
def execRes0L (s : State) : Answer State := clearBitReg 0 .l s

/-- RES 0,(HL) (R364). -/
def execRes0IndHL (s : State) : Answer State := clearBitAtHl 0 s

/-- RES 0,A (R363). -/
def execRes0A (s : State) : Answer State := clearBitReg 0 .a s

/-- RES 1,B (R363). -/
def execRes1B (s : State) : Answer State := clearBitReg 1 .b s

/-- RES 1,C (R363). -/
def execRes1C (s : State) : Answer State := clearBitReg 1 .c s

/-- RES 1,D (R363). -/
def execRes1D (s : State) : Answer State := clearBitReg 1 .d s

/-- RES 1,E (R363). -/
def execRes1E (s : State) : Answer State := clearBitReg 1 .e s

/-- RES 1,H (R363). -/
def execRes1H (s : State) : Answer State := clearBitReg 1 .h s

/-- RES 1,L (R363). -/
def execRes1L (s : State) : Answer State := clearBitReg 1 .l s

/-- RES 1,(HL) (R364). -/
def execRes1IndHL (s : State) : Answer State := clearBitAtHl 1 s

/-- RES 1,A (R363). -/
def execRes1A (s : State) : Answer State := clearBitReg 1 .a s

/-- RES 2,B (R363). -/
def execRes2B (s : State) : Answer State := clearBitReg 2 .b s

/-- RES 2,C (R363). -/
def execRes2C (s : State) : Answer State := clearBitReg 2 .c s

/-- RES 2,D (R363). -/
def execRes2D (s : State) : Answer State := clearBitReg 2 .d s

/-- RES 2,E (R363). -/
def execRes2E (s : State) : Answer State := clearBitReg 2 .e s

/-- RES 2,H (R363). -/
def execRes2H (s : State) : Answer State := clearBitReg 2 .h s

/-- RES 2,L (R363). -/
def execRes2L (s : State) : Answer State := clearBitReg 2 .l s

/-- RES 2,(HL) (R364). -/
def execRes2IndHL (s : State) : Answer State := clearBitAtHl 2 s

/-- RES 2,A (R363). -/
def execRes2A (s : State) : Answer State := clearBitReg 2 .a s

/-- RES 3,B (R363). -/
def execRes3B (s : State) : Answer State := clearBitReg 3 .b s

/-- RES 3,C (R363). -/
def execRes3C (s : State) : Answer State := clearBitReg 3 .c s

/-- RES 3,D (R363). -/
def execRes3D (s : State) : Answer State := clearBitReg 3 .d s

/-- RES 3,E (R363). -/
def execRes3E (s : State) : Answer State := clearBitReg 3 .e s

/-- RES 3,H (R363). -/
def execRes3H (s : State) : Answer State := clearBitReg 3 .h s

/-- RES 3,L (R363). -/
def execRes3L (s : State) : Answer State := clearBitReg 3 .l s

/-- RES 3,(HL) (R364). -/
def execRes3IndHL (s : State) : Answer State := clearBitAtHl 3 s

/-- RES 3,A (R363). -/
def execRes3A (s : State) : Answer State := clearBitReg 3 .a s

/-- RES 4,B (R363). -/
def execRes4B (s : State) : Answer State := clearBitReg 4 .b s

/-- RES 4,C (R363). -/
def execRes4C (s : State) : Answer State := clearBitReg 4 .c s

/-- RES 4,D (R363). -/
def execRes4D (s : State) : Answer State := clearBitReg 4 .d s

/-- RES 4,E (R363). -/
def execRes4E (s : State) : Answer State := clearBitReg 4 .e s

/-- RES 4,H (R363). -/
def execRes4H (s : State) : Answer State := clearBitReg 4 .h s

/-- RES 4,L (R363). -/
def execRes4L (s : State) : Answer State := clearBitReg 4 .l s

/-- RES 4,(HL) (R364). -/
def execRes4IndHL (s : State) : Answer State := clearBitAtHl 4 s

/-- RES 4,A (R363). -/
def execRes4A (s : State) : Answer State := clearBitReg 4 .a s

/-- RES 5,B (R363). -/
def execRes5B (s : State) : Answer State := clearBitReg 5 .b s

/-- RES 5,C (R363). -/
def execRes5C (s : State) : Answer State := clearBitReg 5 .c s

/-- RES 5,D (R363). -/
def execRes5D (s : State) : Answer State := clearBitReg 5 .d s

/-- RES 5,E (R363). -/
def execRes5E (s : State) : Answer State := clearBitReg 5 .e s

/-- RES 5,H (R363). -/
def execRes5H (s : State) : Answer State := clearBitReg 5 .h s

/-- RES 5,L (R363). -/
def execRes5L (s : State) : Answer State := clearBitReg 5 .l s

/-- RES 5,(HL) (R364). -/
def execRes5IndHL (s : State) : Answer State := clearBitAtHl 5 s

/-- RES 5,A (R363). -/
def execRes5A (s : State) : Answer State := clearBitReg 5 .a s

/-- RES 6,B (R363). -/
def execRes6B (s : State) : Answer State := clearBitReg 6 .b s

/-- RES 6,C (R363). -/
def execRes6C (s : State) : Answer State := clearBitReg 6 .c s

/-- RES 6,D (R363). -/
def execRes6D (s : State) : Answer State := clearBitReg 6 .d s

/-- RES 6,E (R363). -/
def execRes6E (s : State) : Answer State := clearBitReg 6 .e s

/-- RES 6,H (R363). -/
def execRes6H (s : State) : Answer State := clearBitReg 6 .h s

/-- RES 6,L (R363). -/
def execRes6L (s : State) : Answer State := clearBitReg 6 .l s

/-- RES 6,(HL) (R364). -/
def execRes6IndHL (s : State) : Answer State := clearBitAtHl 6 s

/-- RES 6,A (R363). -/
def execRes6A (s : State) : Answer State := clearBitReg 6 .a s

/-- RES 7,B (R363). -/
def execRes7B (s : State) : Answer State := clearBitReg 7 .b s

/-- RES 7,C (R363). -/
def execRes7C (s : State) : Answer State := clearBitReg 7 .c s

/-- RES 7,D (R363). -/
def execRes7D (s : State) : Answer State := clearBitReg 7 .d s

/-- RES 7,E (R363). -/
def execRes7E (s : State) : Answer State := clearBitReg 7 .e s

/-- RES 7,H (R363). -/
def execRes7H (s : State) : Answer State := clearBitReg 7 .h s

/-- RES 7,L (R363). -/
def execRes7L (s : State) : Answer State := clearBitReg 7 .l s

/-- RES 7,(HL) (R364). -/
def execRes7IndHL (s : State) : Answer State := clearBitAtHl 7 s

/-- RES 7,A (R363). -/
def execRes7A (s : State) : Answer State := clearBitReg 7 .a s

/-- SET 0,B (R365). -/
def execSet0B (s : State) : Answer State := setBitReg 0 .b s

/-- SET 0,C (R365). -/
def execSet0C (s : State) : Answer State := setBitReg 0 .c s

/-- SET 0,D (R365). -/
def execSet0D (s : State) : Answer State := setBitReg 0 .d s

/-- SET 0,E (R365). -/
def execSet0E (s : State) : Answer State := setBitReg 0 .e s

/-- SET 0,H (R365). -/
def execSet0H (s : State) : Answer State := setBitReg 0 .h s

/-- SET 0,L (R365). -/
def execSet0L (s : State) : Answer State := setBitReg 0 .l s

/-- SET 0,(HL) (R366). -/
def execSet0IndHL (s : State) : Answer State := setBitAtHl 0 s

/-- SET 0,A (R365). -/
def execSet0A (s : State) : Answer State := setBitReg 0 .a s

/-- SET 1,B (R365). -/
def execSet1B (s : State) : Answer State := setBitReg 1 .b s

/-- SET 1,C (R365). -/
def execSet1C (s : State) : Answer State := setBitReg 1 .c s

/-- SET 1,D (R365). -/
def execSet1D (s : State) : Answer State := setBitReg 1 .d s

/-- SET 1,E (R365). -/
def execSet1E (s : State) : Answer State := setBitReg 1 .e s

/-- SET 1,H (R365). -/
def execSet1H (s : State) : Answer State := setBitReg 1 .h s

/-- SET 1,L (R365). -/
def execSet1L (s : State) : Answer State := setBitReg 1 .l s

/-- SET 1,(HL) (R366). -/
def execSet1IndHL (s : State) : Answer State := setBitAtHl 1 s

/-- SET 1,A (R365). -/
def execSet1A (s : State) : Answer State := setBitReg 1 .a s

/-- SET 2,B (R365). -/
def execSet2B (s : State) : Answer State := setBitReg 2 .b s

/-- SET 2,C (R365). -/
def execSet2C (s : State) : Answer State := setBitReg 2 .c s

/-- SET 2,D (R365). -/
def execSet2D (s : State) : Answer State := setBitReg 2 .d s

/-- SET 2,E (R365). -/
def execSet2E (s : State) : Answer State := setBitReg 2 .e s

/-- SET 2,H (R365). -/
def execSet2H (s : State) : Answer State := setBitReg 2 .h s

/-- SET 2,L (R365). -/
def execSet2L (s : State) : Answer State := setBitReg 2 .l s

/-- SET 2,(HL) (R366). -/
def execSet2IndHL (s : State) : Answer State := setBitAtHl 2 s

/-- SET 2,A (R365). -/
def execSet2A (s : State) : Answer State := setBitReg 2 .a s

/-- SET 3,B (R365). -/
def execSet3B (s : State) : Answer State := setBitReg 3 .b s

/-- SET 3,C (R365). -/
def execSet3C (s : State) : Answer State := setBitReg 3 .c s

/-- SET 3,D (R365). -/
def execSet3D (s : State) : Answer State := setBitReg 3 .d s

/-- SET 3,E (R365). -/
def execSet3E (s : State) : Answer State := setBitReg 3 .e s

/-- SET 3,H (R365). -/
def execSet3H (s : State) : Answer State := setBitReg 3 .h s

/-- SET 3,L (R365). -/
def execSet3L (s : State) : Answer State := setBitReg 3 .l s

/-- SET 3,(HL) (R366). -/
def execSet3IndHL (s : State) : Answer State := setBitAtHl 3 s

/-- SET 3,A (R365). -/
def execSet3A (s : State) : Answer State := setBitReg 3 .a s

/-- SET 4,B (R365). -/
def execSet4B (s : State) : Answer State := setBitReg 4 .b s

/-- SET 4,C (R365). -/
def execSet4C (s : State) : Answer State := setBitReg 4 .c s

/-- SET 4,D (R365). -/
def execSet4D (s : State) : Answer State := setBitReg 4 .d s

/-- SET 4,E (R365). -/
def execSet4E (s : State) : Answer State := setBitReg 4 .e s

/-- SET 4,H (R365). -/
def execSet4H (s : State) : Answer State := setBitReg 4 .h s

/-- SET 4,L (R365). -/
def execSet4L (s : State) : Answer State := setBitReg 4 .l s

/-- SET 4,(HL) (R366). -/
def execSet4IndHL (s : State) : Answer State := setBitAtHl 4 s

/-- SET 4,A (R365). -/
def execSet4A (s : State) : Answer State := setBitReg 4 .a s

/-- SET 5,B (R365). -/
def execSet5B (s : State) : Answer State := setBitReg 5 .b s

/-- SET 5,C (R365). -/
def execSet5C (s : State) : Answer State := setBitReg 5 .c s

/-- SET 5,D (R365). -/
def execSet5D (s : State) : Answer State := setBitReg 5 .d s

/-- SET 5,E (R365). -/
def execSet5E (s : State) : Answer State := setBitReg 5 .e s

/-- SET 5,H (R365). -/
def execSet5H (s : State) : Answer State := setBitReg 5 .h s

/-- SET 5,L (R365). -/
def execSet5L (s : State) : Answer State := setBitReg 5 .l s

/-- SET 5,(HL) (R366). -/
def execSet5IndHL (s : State) : Answer State := setBitAtHl 5 s

/-- SET 5,A (R365). -/
def execSet5A (s : State) : Answer State := setBitReg 5 .a s

/-- SET 6,B (R365). -/
def execSet6B (s : State) : Answer State := setBitReg 6 .b s

/-- SET 6,C (R365). -/
def execSet6C (s : State) : Answer State := setBitReg 6 .c s

/-- SET 6,D (R365). -/
def execSet6D (s : State) : Answer State := setBitReg 6 .d s

/-- SET 6,E (R365). -/
def execSet6E (s : State) : Answer State := setBitReg 6 .e s

/-- SET 6,H (R365). -/
def execSet6H (s : State) : Answer State := setBitReg 6 .h s

/-- SET 6,L (R365). -/
def execSet6L (s : State) : Answer State := setBitReg 6 .l s

/-- SET 6,(HL) (R366). -/
def execSet6IndHL (s : State) : Answer State := setBitAtHl 6 s

/-- SET 6,A (R365). -/
def execSet6A (s : State) : Answer State := setBitReg 6 .a s

/-- SET 7,B (R365). -/
def execSet7B (s : State) : Answer State := setBitReg 7 .b s

/-- SET 7,C (R365). -/
def execSet7C (s : State) : Answer State := setBitReg 7 .c s

/-- SET 7,D (R365). -/
def execSet7D (s : State) : Answer State := setBitReg 7 .d s

/-- SET 7,E (R365). -/
def execSet7E (s : State) : Answer State := setBitReg 7 .e s

/-- SET 7,H (R365). -/
def execSet7H (s : State) : Answer State := setBitReg 7 .h s

/-- SET 7,L (R365). -/
def execSet7L (s : State) : Answer State := setBitReg 7 .l s

/-- SET 7,(HL) (R366). -/
def execSet7IndHL (s : State) : Answer State := setBitAtHl 7 s

/-- SET 7,A (R365). -/
def execSet7A (s : State) : Answer State := setBitReg 7 .a s

end Sys2Proof.Machine
end

