-- ==== Sys2Proof/Machine/Rotate.lean ====
section
/-! DEFINITION. Rotates and shifts (43_rotate_bit.md R340 to R360). -/

namespace Sys2Proof.Machine

/-- The accumulator rotates (R341 to R344). -/
def rotAcc (k : RotOp) : State → Answer State :=
  complete 1 4 fun t =>
    let r := rot k t.regs.a t.regs.flags.c
    (t.setReg .a r.1).setFlags (accRotFlags r.2)

/-- A CB rotate or shift of a register (R345, R347, R349, R351, R353, R355, R357, R359). -/
def rotReg (k : RotOp) (dst : Reg8) : State → Answer State :=
  complete 2 8 fun t =>
    let r := rot k (t.reg dst) t.regs.flags.c
    (t.setReg dst r.1).setFlags (rotFlags r.1 r.2)

/-- A CB rotate or shift of the byte at HL (R346, R348, R350, R352, R354, R356, R358, R360). -/
def rotAtHl (k : RotOp) : State → Answer State :=
  complete 2 16 fun t =>
    let r := rot k t.atHl t.regs.flags.c
    (memWrite t t.hl r.1).setFlags (rotFlags r.1 r.2)

/-- RLCA (R341). -/
def execRlca (s : State) : Answer State := rotAcc .rlc s

/-- RRCA (R342). -/
def execRrca (s : State) : Answer State := rotAcc .rrc s

/-- RLA (R343). -/
def execRla (s : State) : Answer State := rotAcc .rl s

/-- RRA (R344). -/
def execRra (s : State) : Answer State := rotAcc .rr s

/-- RLC B (R345). -/
def execRlcB (s : State) : Answer State := rotReg .rlc .b s

/-- RLC C (R345). -/
def execRlcC (s : State) : Answer State := rotReg .rlc .c s

/-- RLC D (R345). -/
def execRlcD (s : State) : Answer State := rotReg .rlc .d s

/-- RLC E (R345). -/
def execRlcE (s : State) : Answer State := rotReg .rlc .e s

/-- RLC H (R345). -/
def execRlcH (s : State) : Answer State := rotReg .rlc .h s

/-- RLC L (R345). -/
def execRlcL (s : State) : Answer State := rotReg .rlc .l s

/-- RLC (HL) (R346). -/
def execRlcIndHL (s : State) : Answer State := rotAtHl .rlc s

/-- RLC A (R345). -/
def execRlcA (s : State) : Answer State := rotReg .rlc .a s

/-- RRC B (R347). -/
def execRrcB (s : State) : Answer State := rotReg .rrc .b s

/-- RRC C (R347). -/
def execRrcC (s : State) : Answer State := rotReg .rrc .c s

/-- RRC D (R347). -/
def execRrcD (s : State) : Answer State := rotReg .rrc .d s

/-- RRC E (R347). -/
def execRrcE (s : State) : Answer State := rotReg .rrc .e s

/-- RRC H (R347). -/
def execRrcH (s : State) : Answer State := rotReg .rrc .h s

/-- RRC L (R347). -/
def execRrcL (s : State) : Answer State := rotReg .rrc .l s

/-- RRC (HL) (R348). -/
def execRrcIndHL (s : State) : Answer State := rotAtHl .rrc s

/-- RRC A (R347). -/
def execRrcA (s : State) : Answer State := rotReg .rrc .a s

/-- RL B (R349). -/
def execRlB (s : State) : Answer State := rotReg .rl .b s

/-- RL C (R349). -/
def execRlC (s : State) : Answer State := rotReg .rl .c s

/-- RL D (R349). -/
def execRlD (s : State) : Answer State := rotReg .rl .d s

/-- RL E (R349). -/
def execRlE (s : State) : Answer State := rotReg .rl .e s

/-- RL H (R349). -/
def execRlH (s : State) : Answer State := rotReg .rl .h s

/-- RL L (R349). -/
def execRlL (s : State) : Answer State := rotReg .rl .l s

/-- RL (HL) (R350). -/
def execRlIndHL (s : State) : Answer State := rotAtHl .rl s

/-- RL A (R349). -/
def execRlA (s : State) : Answer State := rotReg .rl .a s

/-- RR B (R351). -/
def execRrB (s : State) : Answer State := rotReg .rr .b s

/-- RR C (R351). -/
def execRrC (s : State) : Answer State := rotReg .rr .c s

/-- RR D (R351). -/
def execRrD (s : State) : Answer State := rotReg .rr .d s

/-- RR E (R351). -/
def execRrE (s : State) : Answer State := rotReg .rr .e s

/-- RR H (R351). -/
def execRrH (s : State) : Answer State := rotReg .rr .h s

/-- RR L (R351). -/
def execRrL (s : State) : Answer State := rotReg .rr .l s

/-- RR (HL) (R352). -/
def execRrIndHL (s : State) : Answer State := rotAtHl .rr s

/-- RR A (R351). -/
def execRrA (s : State) : Answer State := rotReg .rr .a s

/-- SLA B (R353). -/
def execSlaB (s : State) : Answer State := rotReg .sla .b s

/-- SLA C (R353). -/
def execSlaC (s : State) : Answer State := rotReg .sla .c s

/-- SLA D (R353). -/
def execSlaD (s : State) : Answer State := rotReg .sla .d s

/-- SLA E (R353). -/
def execSlaE (s : State) : Answer State := rotReg .sla .e s

/-- SLA H (R353). -/
def execSlaH (s : State) : Answer State := rotReg .sla .h s

/-- SLA L (R353). -/
def execSlaL (s : State) : Answer State := rotReg .sla .l s

/-- SLA (HL) (R354). -/
def execSlaIndHL (s : State) : Answer State := rotAtHl .sla s

/-- SLA A (R353). -/
def execSlaA (s : State) : Answer State := rotReg .sla .a s

/-- SRA B (R355). -/
def execSraB (s : State) : Answer State := rotReg .sra .b s

/-- SRA C (R355). -/
def execSraC (s : State) : Answer State := rotReg .sra .c s

/-- SRA D (R355). -/
def execSraD (s : State) : Answer State := rotReg .sra .d s

/-- SRA E (R355). -/
def execSraE (s : State) : Answer State := rotReg .sra .e s

/-- SRA H (R355). -/
def execSraH (s : State) : Answer State := rotReg .sra .h s

/-- SRA L (R355). -/
def execSraL (s : State) : Answer State := rotReg .sra .l s

/-- SRA (HL) (R356). -/
def execSraIndHL (s : State) : Answer State := rotAtHl .sra s

/-- SRA A (R355). -/
def execSraA (s : State) : Answer State := rotReg .sra .a s

/-- SWAP B (R357). -/
def execSwapB (s : State) : Answer State := rotReg .swap .b s

/-- SWAP C (R357). -/
def execSwapC (s : State) : Answer State := rotReg .swap .c s

/-- SWAP D (R357). -/
def execSwapD (s : State) : Answer State := rotReg .swap .d s

/-- SWAP E (R357). -/
def execSwapE (s : State) : Answer State := rotReg .swap .e s

/-- SWAP H (R357). -/
def execSwapH (s : State) : Answer State := rotReg .swap .h s

/-- SWAP L (R357). -/
def execSwapL (s : State) : Answer State := rotReg .swap .l s

/-- SWAP (HL) (R358). -/
def execSwapIndHL (s : State) : Answer State := rotAtHl .swap s

/-- SWAP A (R357). -/
def execSwapA (s : State) : Answer State := rotReg .swap .a s

/-- SRL B (R359). -/
def execSrlB (s : State) : Answer State := rotReg .srl .b s

/-- SRL C (R359). -/
def execSrlC (s : State) : Answer State := rotReg .srl .c s

/-- SRL D (R359). -/
def execSrlD (s : State) : Answer State := rotReg .srl .d s

/-- SRL E (R359). -/
def execSrlE (s : State) : Answer State := rotReg .srl .e s

/-- SRL H (R359). -/
def execSrlH (s : State) : Answer State := rotReg .srl .h s

/-- SRL L (R359). -/
def execSrlL (s : State) : Answer State := rotReg .srl .l s

/-- SRL (HL) (R360). -/
def execSrlIndHL (s : State) : Answer State := rotAtHl .srl s

/-- SRL A (R359). -/
def execSrlA (s : State) : Answer State := rotReg .srl .a s

end Sys2Proof.Machine
end

