-- ==== Sys2Proof/Machine/CbGroup.lean ====
section
/-! DEFINITION. PREFIX CB with its second byte, read by its fields (30_encoding.md R182, 45_system.md R406). -/

namespace Sys2Proof.Machine

/-- The register of a 3-bit field; 6 is (HL) (30_encoding.md R184). -/
def fieldReg (z : Nat) : Option Reg8 :=
  match z with
  | 0 => some .b
  | 1 => some .c
  | 2 => some .d
  | 3 => some .e
  | 4 => some .h
  | 5 => some .l
  | 6 => none
  | _ => some .a

/-- The rotate or shift of a 3-bit field (30_encoding.md R182). -/
def fieldRot (y : Nat) : RotOp :=
  match y with
  | 0 => .rlc
  | 1 => .rrc
  | 2 => .rl
  | 3 => .rr
  | 4 => .sla
  | 5 => .sra
  | 6 => .swap
  | _ => .srl

/-- The CB instruction of a second byte, by its kind, its bit index or operation, and its operand
(30_encoding.md R182). Log entry 12. -/
def cbOperation (cbop : Byte) (s : State) : Answer State :=
  let y := (cbop.extractLsb' 3 3).toNat
  match (cbop.extractLsb' 6 2).toNat, fieldReg (cbop.extractLsb' 0 3).toNat with
  | 0, some r => rotReg (fieldRot y) r s
  | 0, none => rotAtHl (fieldRot y) s
  | 1, some r => testBitReg y r s
  | 1, none => testBitAtHl y s
  | 2, some r => clearBitReg y r s
  | 2, none => clearBitAtHl y s
  | _, some r => setBitReg y r s
  | _, none => setBitAtHl y s

/-- PREFIX CB (R406). -/
def execCbPrefix (cbop : Byte) (s : State) : Answer State := cbOperation cbop s

end Sys2Proof.Machine
end

