-- ==== Sys2Proof/Machine/Control.lean ====
section
/-! DEFINITION. Control transfer (44_control.md R380 to R391). No instruction here writes a flag. -/

namespace Sys2Proof.Machine

/-- JP a16 and JP HL (R381, R383). -/
def jump (cycles : Nat) (target : State → Word) (s : State) : Answer State :=
  transfer cycles (target s) id s

/-- JP cc,a16 (R382). -/
def jumpIf (cc : Cond) (target : Word) (s : State) : Answer State :=
  if cc.holds s.regs.flags then transfer 16 target id s else complete 3 12 id s

/-- The target of JR: the following instruction's address plus the displacement (R384). -/
def relativeTarget (s : State) (e8 : Byte) : Word := nextPc s 2 + sext16 e8

/-- JR e8 (R384). -/
def jumpRelative (e8 : Byte) (s : State) : Answer State := transfer 12 (relativeTarget s e8) id s

/-- JR cc,e8 (R385). -/
def jumpRelativeIf (cc : Cond) (e8 : Byte) (s : State) : Answer State :=
  if cc.holds s.regs.flags then transfer 12 (relativeTarget s e8) id s else complete 2 8 id s

/-- CALL a16 and RST t: push the following instruction's address (R386, R391). -/
def call (len cycles : Nat) (target : Word) (s : State) : Answer State :=
  transfer cycles target (fun t => push16 t (nextPc s len)) s

/-- CALL cc,a16 (R387). -/
def callIf (cc : Cond) (target : Word) (s : State) : Answer State :=
  if cc.holds s.regs.flags then call 3 24 target s else complete 3 12 id s

/-- RET (R388). -/
def ret (cycles : Nat) (s : State) : Answer State := transfer cycles (stackTop s) dropTop s

/-- RET cc (R389). -/
def retIf (cc : Cond) (s : State) : Answer State :=
  if cc.holds s.regs.flags then ret 20 s else complete 1 8 id s

/-- RETI (R390). -/
def retEnable (s : State) : Answer State := transfer 16 (stackTop s) returnFromInterrupt s

/-- JR e8 (R384). -/
def execJrE8 (e8 : Byte) (s : State) : Answer State := jumpRelative e8 s

/-- JR NZ,e8 (R385). -/
def execJrNZE8 (e8 : Byte) (s : State) : Answer State := jumpRelativeIf .nz e8 s

/-- JR Z,e8 (R385). -/
def execJrZE8 (e8 : Byte) (s : State) : Answer State := jumpRelativeIf .z e8 s

/-- JR NC,e8 (R385). -/
def execJrNCE8 (e8 : Byte) (s : State) : Answer State := jumpRelativeIf .nc e8 s

/-- JR C,e8 (R385). -/
def execJrCE8 (e8 : Byte) (s : State) : Answer State := jumpRelativeIf .c e8 s

/-- RET NZ (R389). -/
def execRetNZ (s : State) : Answer State := retIf .nz s

/-- JP NZ,a16 (R382). -/
def execJpNZA16 (a16 : Word) (s : State) : Answer State := jumpIf .nz a16 s

/-- JP a16 (R381). -/
def execJpA16 (a16 : Word) (s : State) : Answer State := jump 16 (fun _ => a16) s

/-- CALL NZ,a16 (R387). -/
def execCallNZA16 (a16 : Word) (s : State) : Answer State := callIf .nz a16 s

/-- RST 00H (R391). -/
def execRst00 (s : State) : Answer State := call 1 16 0x0000 s

/-- RET Z (R389). -/
def execRetZ (s : State) : Answer State := retIf .z s

/-- RET (R388). -/
def execRet (s : State) : Answer State := ret 16 s

/-- JP Z,a16 (R382). -/
def execJpZA16 (a16 : Word) (s : State) : Answer State := jumpIf .z a16 s

/-- CALL Z,a16 (R387). -/
def execCallZA16 (a16 : Word) (s : State) : Answer State := callIf .z a16 s

/-- CALL a16 (R386). -/
def execCallA16 (a16 : Word) (s : State) : Answer State := call 3 24 a16 s

/-- RST 08H (R391). -/
def execRst08 (s : State) : Answer State := call 1 16 0x0008 s

/-- RET NC (R389). -/
def execRetNC (s : State) : Answer State := retIf .nc s

/-- JP NC,a16 (R382). -/
def execJpNCA16 (a16 : Word) (s : State) : Answer State := jumpIf .nc a16 s

/-- CALL NC,a16 (R387). -/
def execCallNCA16 (a16 : Word) (s : State) : Answer State := callIf .nc a16 s

/-- RST 10H (R391). -/
def execRst10 (s : State) : Answer State := call 1 16 0x0010 s

/-- RET C (R389). -/
def execRetC (s : State) : Answer State := retIf .c s

/-- RETI (R390). -/
def execReti (s : State) : Answer State := retEnable s

/-- JP C,a16 (R382). -/
def execJpCA16 (a16 : Word) (s : State) : Answer State := jumpIf .c a16 s

/-- CALL C,a16 (R387). -/
def execCallCA16 (a16 : Word) (s : State) : Answer State := callIf .c a16 s

/-- RST 18H (R391). -/
def execRst18 (s : State) : Answer State := call 1 16 0x0018 s

/-- RST 20H (R391). -/
def execRst20 (s : State) : Answer State := call 1 16 0x0020 s

/-- JP HL (R383). -/
def execJpHL (s : State) : Answer State := jump 4 State.hl s

/-- RST 28H (R391). -/
def execRst28 (s : State) : Answer State := call 1 16 0x0028 s

/-- RST 30H (R391). -/
def execRst30 (s : State) : Answer State := call 1 16 0x0030 s

/-- RST 38H (R391). -/
def execRst38 (s : State) : Answer State := call 1 16 0x0038 s

end Sys2Proof.Machine
end

