-- ==== Sys2Proof/Machine/Loads.lean ====
section
/-! DEFINITION. Loads, stores and stack transfers (40_load.md R220 to R244). No instruction here sets PC itself, and none writes a flag but POP AF. -/

namespace Sys2Proof.Machine

/-- LD r,r' (R221). -/
def loadReg (dst src : Reg8) : State → Answer State := complete 1 4 fun t => t.setReg dst (t.reg src)

/-- A register from the byte at an address (R222, R226, R227, R234, R236, R238). -/
def loadFrom (len cycles : Nat) (dst : Reg8) (addr : State → Word) : State → Answer State :=
  complete len cycles fun t => t.setReg dst (memRead t (addr t))

/-- A register to the byte at an address (R223, R228, R229, R235, R237, R239). -/
def storeTo (len cycles : Nat) (addr : State → Word) (src : Reg8) : State → Answer State :=
  complete len cycles fun t => memWrite t (addr t) (t.reg src)

/-- LD r,d8 (R224). -/
def loadImm (dst : Reg8) (n : Byte) : State → Answer State := complete 2 8 fun t => t.setReg dst n

/-- LD (HL),d8 (R225). -/
def storeImm (n : Byte) : State → Answer State := complete 2 12 fun t => memWrite t t.hl n

/-- LD A,(HL+) and LD A,(HL-): read, then step HL (R230, R231). -/
def loadStep (step : Word) : State → Answer State :=
  complete 1 8 fun t => (t.setReg .a t.atHl).setPair .hl (t.hl + step)

/-- LD (HL+),A and LD (HL-),A: write, then step HL (R232, R233). -/
def storeStep (step : Word) : State → Answer State :=
  complete 1 8 fun t => (memWrite t t.hl t.regs.a).setPair .hl (t.hl + step)

/-- LD rr,d16 (R240). -/
def loadPair (p : Pair) (n : Word) : State → Answer State := complete 3 12 fun t => t.setPair p n

/-- LD (a16),SP (R241). -/
def storeSp (addr : Word) : State → Answer State :=
  complete 3 20 fun t => memWrite16 t addr t.regs.sp

/-- LD SP,HL (R242). -/
def loadSpHl : State → Answer State := complete 1 8 fun t => t.setSp t.hl

/-- PUSH rr (R243). -/
def pushPair (p : StackPair) : State → Answer State :=
  complete 1 16 fun t => push16 t (t.regs.getStackPair p)

/-- POP rr (R244). -/
def popPair (p : StackPair) : State → Answer State :=
  complete 1 12 fun t => (dropTop t).withRegs ((dropTop t).regs.putStackPair p (stackTop t))

/-- LD BC,d16 (R240). -/
def execLdBCD16 (d16 : Word) (s : State) : Answer State := loadPair .bc d16 s

/-- LD (BC),A (R228). -/
def execLdIndBCA (s : State) : Answer State := storeTo 1 8 (fun t => t.pair .bc) .a s

/-- LD B,d8 (R224). -/
def execLdBD8 (d8 : Byte) (s : State) : Answer State := loadImm .b d8 s

/-- LD (a16),SP (R241). -/
def execLdIndA16SP (a16 : Word) (s : State) : Answer State := storeSp a16 s

/-- LD A,(BC) (R226). -/
def execLdAIndBC (s : State) : Answer State := loadFrom 1 8 .a (fun t => t.pair .bc) s

/-- LD C,d8 (R224). -/
def execLdCD8 (d8 : Byte) (s : State) : Answer State := loadImm .c d8 s

/-- LD DE,d16 (R240). -/
def execLdDED16 (d16 : Word) (s : State) : Answer State := loadPair .de d16 s

/-- LD (DE),A (R229). -/
def execLdIndDEA (s : State) : Answer State := storeTo 1 8 (fun t => t.pair .de) .a s

/-- LD D,d8 (R224). -/
def execLdDD8 (d8 : Byte) (s : State) : Answer State := loadImm .d d8 s

/-- LD A,(DE) (R227). -/
def execLdAIndDE (s : State) : Answer State := loadFrom 1 8 .a (fun t => t.pair .de) s

/-- LD E,d8 (R224). -/
def execLdED8 (d8 : Byte) (s : State) : Answer State := loadImm .e d8 s

/-- LD HL,d16 (R240). -/
def execLdHLD16 (d16 : Word) (s : State) : Answer State := loadPair .hl d16 s

/-- LD (HL+),A (R232). -/
def execLdIndHLIncA (s : State) : Answer State := storeStep (1) s

/-- LD H,d8 (R224). -/
def execLdHD8 (d8 : Byte) (s : State) : Answer State := loadImm .h d8 s

/-- LD A,(HL+) (R230). -/
def execLdAIndHLInc (s : State) : Answer State := loadStep (1) s

/-- LD L,d8 (R224). -/
def execLdLD8 (d8 : Byte) (s : State) : Answer State := loadImm .l d8 s

/-- LD SP,d16 (R240). -/
def execLdSPD16 (d16 : Word) (s : State) : Answer State := loadPair .sp d16 s

/-- LD (HL-),A (R233). -/
def execLdIndHLDecA (s : State) : Answer State := storeStep (-1) s

/-- LD (HL),d8 (R225). -/
def execLdIndHLD8 (d8 : Byte) (s : State) : Answer State := storeImm d8 s

/-- LD A,(HL-) (R231). -/
def execLdAIndHLDec (s : State) : Answer State := loadStep (-1) s

/-- LD A,d8 (R224). -/
def execLdAD8 (d8 : Byte) (s : State) : Answer State := loadImm .a d8 s

/-- LD B,B (R221). -/
def execLdBB (s : State) : Answer State := loadReg .b .b s

/-- LD B,C (R221). -/
def execLdBC (s : State) : Answer State := loadReg .b .c s

/-- LD B,D (R221). -/
def execLdBD (s : State) : Answer State := loadReg .b .d s

/-- LD B,E (R221). -/
def execLdBE (s : State) : Answer State := loadReg .b .e s

/-- LD B,H (R221). -/
def execLdBH (s : State) : Answer State := loadReg .b .h s

/-- LD B,L (R221). -/
def execLdBL (s : State) : Answer State := loadReg .b .l s

/-- LD B,(HL) (R222). -/
def execLdBIndHL (s : State) : Answer State := loadFrom 1 8 .b State.hl s

/-- LD B,A (R221). -/
def execLdBA (s : State) : Answer State := loadReg .b .a s

/-- LD C,B (R221). -/
def execLdCB (s : State) : Answer State := loadReg .c .b s

/-- LD C,C (R221). -/
def execLdCC (s : State) : Answer State := loadReg .c .c s

/-- LD C,D (R221). -/
def execLdCD (s : State) : Answer State := loadReg .c .d s

/-- LD C,E (R221). -/
def execLdCE (s : State) : Answer State := loadReg .c .e s

/-- LD C,H (R221). -/
def execLdCH (s : State) : Answer State := loadReg .c .h s

/-- LD C,L (R221). -/
def execLdCL (s : State) : Answer State := loadReg .c .l s

/-- LD C,(HL) (R222). -/
def execLdCIndHL (s : State) : Answer State := loadFrom 1 8 .c State.hl s

/-- LD C,A (R221). -/
def execLdCA (s : State) : Answer State := loadReg .c .a s

/-- LD D,B (R221). -/
def execLdDB (s : State) : Answer State := loadReg .d .b s

/-- LD D,C (R221). -/
def execLdDC (s : State) : Answer State := loadReg .d .c s

/-- LD D,D (R221). -/
def execLdDD (s : State) : Answer State := loadReg .d .d s

/-- LD D,E (R221). -/
def execLdDE (s : State) : Answer State := loadReg .d .e s

/-- LD D,H (R221). -/
def execLdDH (s : State) : Answer State := loadReg .d .h s

/-- LD D,L (R221). -/
def execLdDL (s : State) : Answer State := loadReg .d .l s

/-- LD D,(HL) (R222). -/
def execLdDIndHL (s : State) : Answer State := loadFrom 1 8 .d State.hl s

/-- LD D,A (R221). -/
def execLdDA (s : State) : Answer State := loadReg .d .a s

/-- LD E,B (R221). -/
def execLdEB (s : State) : Answer State := loadReg .e .b s

/-- LD E,C (R221). -/
def execLdEC (s : State) : Answer State := loadReg .e .c s

/-- LD E,D (R221). -/
def execLdED (s : State) : Answer State := loadReg .e .d s

/-- LD E,E (R221). -/
def execLdEE (s : State) : Answer State := loadReg .e .e s

/-- LD E,H (R221). -/
def execLdEH (s : State) : Answer State := loadReg .e .h s

/-- LD E,L (R221). -/
def execLdEL (s : State) : Answer State := loadReg .e .l s

/-- LD E,(HL) (R222). -/
def execLdEIndHL (s : State) : Answer State := loadFrom 1 8 .e State.hl s

/-- LD E,A (R221). -/
def execLdEA (s : State) : Answer State := loadReg .e .a s

/-- LD H,B (R221). -/
def execLdHB (s : State) : Answer State := loadReg .h .b s

/-- LD H,C (R221). -/
def execLdHC (s : State) : Answer State := loadReg .h .c s

/-- LD H,D (R221). -/
def execLdHD (s : State) : Answer State := loadReg .h .d s

/-- LD H,E (R221). -/
def execLdHE (s : State) : Answer State := loadReg .h .e s

/-- LD H,H (R221). -/
def execLdHH (s : State) : Answer State := loadReg .h .h s

/-- LD H,L (R221). -/
def execLdHL (s : State) : Answer State := loadReg .h .l s

/-- LD H,(HL) (R222). -/
def execLdHIndHL (s : State) : Answer State := loadFrom 1 8 .h State.hl s

/-- LD H,A (R221). -/
def execLdHA (s : State) : Answer State := loadReg .h .a s

/-- LD L,B (R221). -/
def execLdLB (s : State) : Answer State := loadReg .l .b s

/-- LD L,C (R221). -/
def execLdLC (s : State) : Answer State := loadReg .l .c s

/-- LD L,D (R221). -/
def execLdLD (s : State) : Answer State := loadReg .l .d s

/-- LD L,E (R221). -/
def execLdLE (s : State) : Answer State := loadReg .l .e s

/-- LD L,H (R221). -/
def execLdLH (s : State) : Answer State := loadReg .l .h s

/-- LD L,L (R221). -/
def execLdLL (s : State) : Answer State := loadReg .l .l s

/-- LD L,(HL) (R222). -/
def execLdLIndHL (s : State) : Answer State := loadFrom 1 8 .l State.hl s

/-- LD L,A (R221). -/
def execLdLA (s : State) : Answer State := loadReg .l .a s

/-- LD (HL),B (R223). -/
def execLdIndHLB (s : State) : Answer State := storeTo 1 8 State.hl .b s

/-- LD (HL),C (R223). -/
def execLdIndHLC (s : State) : Answer State := storeTo 1 8 State.hl .c s

/-- LD (HL),D (R223). -/
def execLdIndHLD (s : State) : Answer State := storeTo 1 8 State.hl .d s

/-- LD (HL),E (R223). -/
def execLdIndHLE (s : State) : Answer State := storeTo 1 8 State.hl .e s

/-- LD (HL),H (R223). -/
def execLdIndHLH (s : State) : Answer State := storeTo 1 8 State.hl .h s

/-- LD (HL),L (R223). -/
def execLdIndHLL (s : State) : Answer State := storeTo 1 8 State.hl .l s

/-- LD (HL),A (R223). -/
def execLdIndHLA (s : State) : Answer State := storeTo 1 8 State.hl .a s

/-- LD A,B (R221). -/
def execLdAB (s : State) : Answer State := loadReg .a .b s

/-- LD A,C (R221). -/
def execLdAC (s : State) : Answer State := loadReg .a .c s

/-- LD A,D (R221). -/
def execLdAD (s : State) : Answer State := loadReg .a .d s

/-- LD A,E (R221). -/
def execLdAE (s : State) : Answer State := loadReg .a .e s

/-- LD A,H (R221). -/
def execLdAH (s : State) : Answer State := loadReg .a .h s

/-- LD A,L (R221). -/
def execLdAL (s : State) : Answer State := loadReg .a .l s

/-- LD A,(HL) (R222). -/
def execLdAIndHL (s : State) : Answer State := loadFrom 1 8 .a State.hl s

/-- LD A,A (R221). -/
def execLdAA (s : State) : Answer State := loadReg .a .a s

/-- POP BC (R244). -/
def execPopBC (s : State) : Answer State := popPair .bc s

/-- PUSH BC (R243). -/
def execPushBC (s : State) : Answer State := pushPair .bc s

/-- POP DE (R244). -/
def execPopDE (s : State) : Answer State := popPair .de s

/-- PUSH DE (R243). -/
def execPushDE (s : State) : Answer State := pushPair .de s

/-- LDH (a8),A (R237). -/
def execLdhIndA8A (a8 : Byte) (s : State) : Answer State := storeTo 2 12 (fun _ => highPage a8) .a s

/-- POP HL (R244). -/
def execPopHL (s : State) : Answer State := popPair .hl s

/-- LDH (C),A (R239). -/
def execLdhIndCA (s : State) : Answer State := storeTo 1 8 (fun t => highPage t.regs.c) .a s

/-- PUSH HL (R243). -/
def execPushHL (s : State) : Answer State := pushPair .hl s

/-- LD (a16),A (R235). -/
def execLdIndA16A (a16 : Word) (s : State) : Answer State := storeTo 3 16 (fun _ => a16) .a s

/-- LDH A,(a8) (R236). -/
def execLdhAIndA8 (a8 : Byte) (s : State) : Answer State := loadFrom 2 12 .a (fun _ => highPage a8) s

/-- POP AF (R244). -/
def execPopAF (s : State) : Answer State := popPair .af s

/-- LDH A,(C) (R238). -/
def execLdhAIndC (s : State) : Answer State := loadFrom 1 8 .a (fun t => highPage t.regs.c) s

/-- PUSH AF (R243). -/
def execPushAF (s : State) : Answer State := pushPair .af s

/-- LD SP,HL (R242). -/
def execLdSPHL (s : State) : Answer State := loadSpHl s

/-- LD A,(a16) (R234). -/
def execLdAIndA16 (a16 : Word) (s : State) : Answer State := loadFrom 3 16 .a (fun _ => a16) s

end Sys2Proof.Machine
end

