-- ==== Sys2Proof/Machine/System.lean ====
section
/-! DEFINITION. NOP, DI, EI, HALT, STOP and the eleven undefined opcodes (45_system.md R400 to R407). -/

namespace Sys2Proof.Machine

/-- DI (R401). -/
def disableInterrupts (t : State) : State :=
  { t with latch := { t.latch with ime := false, imePending := false } }

/-- EI (R405). -/
def enableAfterNext (t : State) : State := { t with latch := { t.latch with imePending := true } }

/-- HALT (R402): halt, or with IME = 0 and an interrupt pending set the halt-bug latch. -/
def waitForInterrupt (t : State) : State :=
  if t.latch.ime || !hasPending t then { t with latch := { t.latch with halted := true } }
  else if t.params.haltBug then { t with latch := { t.latch with haltBug := true } }
  else t

/-- The CGB speed switch (R404). -/
def switchSpeed (t : State) : State :=
  { t with latch := { t.latch with ds := !t.latch.ds }, key1 := t.key1 &&& 0xFE }

/-- STOP (R404): a speed switch on CGB with KEY1 armed; the spec refuses it otherwise. -/
def stopOrSwitch (s : State) : Answer State :=
  if s.params.bootProfile = .cgb ∧ s.key1.getLsbD 0 then complete 2 4 switchSpeed s
  else .refused .stopUnmodelled

/-- NOP (R400). -/
def execNop (s : State) : Answer State := complete 1 4 id s

/-- STOP (R404). -/
def execStop (_ignored : Byte) (s : State) : Answer State := stopOrSwitch s

/-- HALT (R402). -/
def execHalt (s : State) : Answer State := complete 1 4 waitForInterrupt s

/-- ILLEGAL_D3 (R407). -/
def execIllegalD3 (s : State) : Answer State := raiseFatal 0xD3 s

/-- ILLEGAL_DB (R407). -/
def execIllegalDB (s : State) : Answer State := raiseFatal 0xDB s

/-- ILLEGAL_DD (R407). -/
def execIllegalDD (s : State) : Answer State := raiseFatal 0xDD s

/-- ILLEGAL_E3 (R407). -/
def execIllegalE3 (s : State) : Answer State := raiseFatal 0xE3 s

/-- ILLEGAL_E4 (R407). -/
def execIllegalE4 (s : State) : Answer State := raiseFatal 0xE4 s

/-- ILLEGAL_EB (R407). -/
def execIllegalEB (s : State) : Answer State := raiseFatal 0xEB s

/-- ILLEGAL_EC (R407). -/
def execIllegalEC (s : State) : Answer State := raiseFatal 0xEC s

/-- ILLEGAL_ED (R407). -/
def execIllegalED (s : State) : Answer State := raiseFatal 0xED s

/-- DI (R401). -/
def execDi (s : State) : Answer State := complete 1 4 disableInterrupts s

/-- ILLEGAL_F4 (R407). -/
def execIllegalF4 (s : State) : Answer State := raiseFatal 0xF4 s

/-- EI (R405). -/
def execEi (s : State) : Answer State := complete 1 4 enableAfterNext s

/-- ILLEGAL_FC (R407). -/
def execIllegalFC (s : State) : Answer State := raiseFatal 0xFC s

/-- ILLEGAL_FD (R407). -/
def execIllegalFD (s : State) : Answer State := raiseFatal 0xFD s

end Sys2Proof.Machine
end

