-- ==== Sys2Proof/Machine/Renderer.lean ====
section
/-! DEFINITION. The scanline renderer (60_exceptions.md R470 to R479). -/

namespace Sys2Proof.Machine

/-- A palette's shade for a colour: `(P >> 2c) & 3` (10_state.md R59). -/
def paletteShade (palette : Byte) (colour : Shade) : Shade :=
  palette.extractLsb' (2 * colour.toNat) 2

/-- The colour of bit `bit` of a tile row whose two bytes are at `base` and `base + 1`: the low plane
first (60_exceptions.md R473). -/
def planePixel (s : State) (base bit : Nat) : Shade :=
  BitVec.ofBool ((s.ramByte (base + 1)).getLsbD bit) ++ BitVec.ofBool ((s.ramByte base).getLsbD bit)

/-- The address of tile `idx` of the background and window: from 0x8000 unsigned or around 0x9000
signed (60_exceptions.md R473). -/
def tileBase (s : State) (idx : Byte) : Nat :=
  if s.lcd.lcdc.getLsbD 4 then 0x8000 + idx.toNat * 16
  else (0x9000 + idx.toInt * 16).toNat

/-- `tile_pixel(idx, col, row)` (60_exceptions.md R473). -/
def tilePixel (s : State) (idx : Byte) (col row : Nat) : Shade :=
  planePixel s (tileBase s idx + 2 * row) (7 - col)

/-- The tile map an LCDC bit selects (10_state.md R53). -/
def mapBase (high : Bool) : Nat := if high then 0x9C00 else 0x9800

/-- The colour at pixel (px, py) of the tile map at `map` (60_exceptions.md R471, R472). -/
def mapPixel (s : State) (map px py : Nat) : Shade :=
  tilePixel s (s.ramByte (map + py / 8 * 32 + px / 8)) (px % 8) (py % 8)

/-- The background colour of column `x` of line `y` (60_exceptions.md R471). -/
def backgroundColour (s : State) (y x : Nat) : Shade :=
  mapPixel s (mapBase (s.lcd.lcdc.getLsbD 3)) ((x + s.lcd.scx.toNat) % 256)
    ((y + s.lcd.scy.toNat) % 256)

/-- Whether the window covers column `x` (60_exceptions.md R472). -/
def windowCovers (s : State) (x : Nat) : Bool :=
  s.lcd.lcdc.getLsbD 5 && s.lcd.lcdc.getLsbD 0 && s.ppu.wyTrig && decide (s.lcd.wx.toNat ≤ x + 7)

/-- The window colour of a column the window covers (60_exceptions.md R472). -/
def windowColour (s : State) (x : Nat) : Shade :=
  mapPixel s (mapBase (s.lcd.lcdc.getLsbD 6)) (x + 7 - s.lcd.wx.toNat) s.ppu.winLine.toNat

/-- `bg_raw[x]`: the colour before the palette (60_exceptions.md R471, R472, R474, R475). -/
def rawColour (s : State) (y x : Nat) : Shade :=
  if !s.lcd.lcdc.getLsbD 0 then 0
  else if windowCovers s x then windowColour s x
  else backgroundColour s y x

/-- The background's shade of a column (60_exceptions.md R474, R475). -/
def backgroundShade (s : State) (y x : Nat) : Shade :=
  if !s.lcd.lcdc.getLsbD 0 then 0 else paletteShade s.lcd.bgp (rawColour s y x)

/-- An OAM entry (60_exceptions.md R476). -/
structure Sprite where
  y : Byte
  x : Byte
  tile : Byte
  attr : Byte
  deriving DecidableEq, Repr

/-- OAM entry `i` (60_exceptions.md R476). -/
def oamEntry (s : State) (i : Nat) : Sprite :=
  { y := s.ramByte (0xFE00 + 4 * i), x := s.ramByte (0xFE00 + 4 * i + 1)
    tile := s.ramByte (0xFE00 + 4 * i + 2), attr := s.ramByte (0xFE00 + 4 * i + 3) }

/-- The sprites' height (60_exceptions.md R476). -/
def spriteHeight (s : State) : Nat := if s.lcd.lcdc.getLsbD 2 then 16 else 8

/-- Whether a sprite's Y range contains line `y` (60_exceptions.md R476). -/
def Sprite.onLine (p : Sprite) (height y : Nat) : Bool :=
  decide (p.y.toNat ≤ y + 16 ∧ y + 16 < p.y.toNat + height)

/-- The sprites of line `y`: in OAM order, the first ten only; none when LCDC bit 1 is 0
(60_exceptions.md R476). -/
def selectSprites (s : State) (y : Nat) : List Sprite :=
  if s.lcd.lcdc.getLsbD 1 then
    (((List.range 40).map (oamEntry s)).filter fun p => p.onLine (spriteHeight s) y).take 10
  else []

/-- Sorted by rising X, equal X in OAM order (60_exceptions.md R477). -/
def sortSprites (l : List Sprite) : List Sprite :=
  l.insertionSort fun p q => p.x.toNat ≤ q.x.toNat

/-- The row of a sprite's tile data that line `y` shows (60_exceptions.md R478). -/
def Sprite.row (p : Sprite) (height y : Nat) : Nat :=
  let row := y + 16 - p.y.toNat
  if p.attr.getLsbD 6 then height - 1 - row else row

/-- The tile index a sprite uses: bit 0 is dropped for 8x16 (60_exceptions.md R478). -/
def Sprite.tileIndex (p : Sprite) (height : Nat) : Byte :=
  if height = 16 then p.tile &&& 0xFE else p.tile

/-- The colour of pixel `i` (0 to 7, left to right) of a sprite on line `y` (60_exceptions.md R478). -/
def spriteColour (s : State) (p : Sprite) (y i : Nat) : Shade :=
  let height := spriteHeight s
  planePixel s (0x8000 + (p.tileIndex height).toNat * 16 + 2 * p.row height y)
    (if p.attr.getLsbD 5 then i else 7 - i)

/-- Draw pixel `i` of a sprite over a line: skipped off the screen, where its colour is 0, and where
it is behind a background colour (60_exceptions.md R478). -/
def drawPixel (s : State) (y : Nat) (p : Sprite) (line : List Shade) (i : Nat) : List Shade :=
  let colour := spriteColour s p y i
  let palette := if p.attr.getLsbD 4 then s.lcd.obp1 else s.lcd.obp0
  if p.x.toNat + i < 8 ∨ 168 ≤ p.x.toNat + i then line
  else
    let sx := p.x.toNat + i - 8
    if colour = 0 then line
    else if p.attr.getLsbD 7 ∧ rawColour s y sx ≠ 0 then line
    else line.set sx (paletteShade palette colour)

/-- Draw one sprite over a line (60_exceptions.md R478). -/
def drawSprite (s : State) (y : Nat) (line : List Shade) (p : Sprite) : List Shade :=
  (List.range 8).foldl (drawPixel s y p) line

/-- The 160 shades of line `y`: the background and window, then the sprites from the last of the
sorted list to the first (60_exceptions.md R475, R477, R478). -/
def lineShades (s : State) (y : Nat) : List Shade :=
  (sortSprites (selectSprites s y)).reverse.foldl (drawSprite s y)
    ((List.range 160).map (backgroundShade s y))

/-- Whether the window covers any column of the line (60_exceptions.md R479). -/
def windowShown (s : State) : Bool := (List.range 160).any (windowCovers s)

/-- `render_line(y)`: row `y` of the frame buffer, then the window line counter (60_exceptions.md
R470, R479). -/
def renderLine (s : State) (y : Nat) : State :=
  { s with
    ppu :=
      { s.ppu with
        frame := s.ppu.frame.set y (lineShades s y)
        winLine := if windowShown s then s.ppu.winLine + 1 else s.ppu.winLine } }

end Sys2Proof.Machine
end

