-- ==== Sys2Proof/Machine/Ppu.lean ====
section
/-! DEFINITION. The PPU mode machine (60_exceptions.md R460 to R467). -/

namespace Sys2Proof.Machine

/-- `speed = 1 + ds` (10_state.md R40). -/
def speed (s : State) : Nat := if s.latch.ds then 2 else 1

/-- A mode's width in cycles at normal speed (60_exceptions.md R460). -/
def PpuMode.baseWidth : PpuMode → Nat
  | .oamScan => 80
  | .vramAccess => 172
  | .hblank => 204
  | .vblank => 456

/-- `width(mode)` (60_exceptions.md R460). -/
def modeWidth (s : State) : Nat := s.ppu.mode.baseWidth * speed s

/-- IF bit 0, the VBlank source (60_exceptions.md R420). -/
def vblankBit : Byte := 0x01

/-- IF bit 1, the STAT source (60_exceptions.md R420). -/
def statBit : Byte := 0x02

/-- A STAT request when enable bit `en` of STAT (3 HBlank, 4 VBlank, 5 OAMScan, 6 LY=LYC) is set
(60_exceptions.md R465, R466). -/
def requestStat (s : State) (en : Nat) : State :=
  if s.lcd.statEn.getLsbD (en - 3) then s.request statBit else s

/-- `enter(m)`: the mode, then its entry action (60_exceptions.md R462, R464, R465). -/
def enterMode (m : PpuMode) (s : State) : State :=
  let t := { s with ppu := { s.ppu with mode := m } }
  match m with
  | .oamScan =>
    requestStat { t with ppu := { t.ppu with wyTrig := t.ppu.wyTrig || (s.lcd.wy == s.ppu.ly) } } 5
  | .vramAccess => t
  | .hblank => requestStat t 3
  | .vblank => requestStat (t.request vblankBit) 4

/-- `set_ly(v)`: the line, the coincidence flag, and the LYC request (60_exceptions.md R463, R466). -/
def setLy (v : Byte) (s : State) : State :=
  let t := { s with ppu := { s.ppu with ly := v, coinc := v == s.lcd.lyc } }
  if v == s.lcd.lyc then requestStat t 6 else t

/-- `new_frame()` (60_exceptions.md R467). -/
def newFrame (s : State) : State :=
  { s with ppu := { s.ppu with winLine := 0, wyTrig := false } }

/-- What happens when `dot` reaches the end of the mode (60_exceptions.md R461). -/
def endMode (s : State) : State :=
  match s.ppu.mode with
  | .oamScan => enterMode .vramAccess s
  | .vramAccess => enterMode .hblank (renderLine s s.ppu.ly.toNat)
  | .hblank =>
    let t := setLy (s.ppu.ly + 1) s
    if t.ppu.ly = 144 then enterMode .vblank t else enterMode .oamScan t
  | .vblank =>
    if s.ppu.ly.toNat < 153 then setLy (s.ppu.ly + 1) s
    else enterMode .oamScan (setLy 0 (newFrame s))

/-- The loop of the PPU step: end modes while `dot` reaches the mode's width, at most `fuel` times
(60_exceptions.md R461). Each pass takes at least 80 cycles from `dot`. -/
def ppuLoop : Nat → State → State
  | 0, s => s
  | fuel + 1, s =>
    if modeWidth s ≤ s.ppu.dot then
      ppuLoop fuel (endMode { s with ppu := { s.ppu with dot := s.ppu.dot - modeWidth s } })
    else s

/-- The PPU for a step of `n` cycles (60_exceptions.md R461). -/
def ppuStep (n : Nat) (s : State) : State :=
  if lcdOn s then
    let dot := s.ppu.dot + n
    ppuLoop (dot / 80 + 1) { s with ppu := { s.ppu with dot := dot } }
  else s

end Sys2Proof.Machine
end

