-- ==== Sys2Proof/Machine/Timers.lean ====
section
/-! DEFINITION. DIV and TIMA (60_exceptions.md R450 to R453). -/

namespace Sys2Proof.Machine

/-- `P_div` (60_exceptions.md R450). -/
def divPeriod (s : State) : Nat := if s.latch.ds then s.params.divPeriodDs else 256

/-- DIV for a step of `n` cycles: one increment for each whole period in the accumulator, the
remainder kept (60_exceptions.md R450). A period of 0, with which the rule's loop would not end,
increments nothing (log entry 17). -/
def divStep (n : Nat) (s : State) : State :=
  let acc := s.timer.divAcc + n
  { s with
    timer :=
      { s.timer with
        divAcc := acc % divPeriod s
        div := s.timer.div + BitVec.ofNat 8 (acc / divPeriod s) } }

/-- `P_tima` for TAC (60_exceptions.md R451). -/
def timaPeriod (tac : Byte) : Nat :=
  match (tac.extractLsb' 0 2).toNat with
  | 0 => 1024
  | 1 => 16
  | 2 => 64
  | _ => 256

/-- IF bit 2, the Timer source (60_exceptions.md R420). -/
def timerBit : Byte := 0x04

/-- `tima_tick()`: on overflow TMA is reloaded and IF bit 2 set at once (60_exceptions.md R452). -/
def timaTick (s : State) : State :=
  if s.timer.tima = 0xFF then
    { s with timer := { s.timer with tima := s.timer.tma } }.request timerBit
  else { s with timer := { s.timer with tima := s.timer.tima + 1 } }

/-- `k` ticks of TIMA. -/
def timaTicks : Nat → State → State
  | 0, s => s
  | k + 1, s => timaTicks k (timaTick s)

/-- TIMA for a step of `n` cycles (60_exceptions.md R451). -/
def timaStep (n : Nat) (s : State) : State :=
  if s.timer.tac.getLsbD 2 then
    let acc := s.timer.timaAcc + n
    let period := timaPeriod s.timer.tac
    timaTicks (acc / period) { s with timer := { s.timer with timaAcc := acc % period } }
  else s

end Sys2Proof.Machine
end

