-- ==== Sys2Proof/Machine/Coordinator.lean ====
section
/-! DEFINITION. The CPU step and the timing coordinator: what one step of the machine is made of (30_encoding.md R190 to R193, 60_exceptions.md R505, R506). -/

namespace Sys2Proof.Machine

/-- The three bytes an instruction is decoded from: the opcode at PC and the two bytes at the operand
base, which the halt bug moves one byte back (30_encoding.md R183, R191). Reading all three is
unseen where fewer are used, since no read has an effect (20_memory.md R113). -/
def fetchBytes (s : State) : List Byte :=
  let ob := s.regs.pc + 1 - hbUsed s
  [memRead s s.regs.pc, memRead s ob, memRead s (ob + 1)]

/-- IME-pending promotion: a latch that was set when the instruction began and is still set becomes
IME (30_encoding.md R193). -/
def promoteIme (pendingBefore : Bool) (s : State) : State :=
  if pendingBefore && s.latch.imePending then
    { s with latch := { s.latch with ime := true, imePending := false } }
  else s

/-- Apply a function to the next state of an answer. -/
def mapNext (f : State → State) : Answer State → Answer State
  | .next s => .next (f s)
  | .fault r => .fault r
  | .refused r => .refused r

/-- Fetch, decode, execute, promote (30_encoding.md R190, R191, R193). -/
def fetchAndExecute (s : State) : Answer State :=
  match decode (fetchBytes s) with
  | .ok (i, _) => mapNext (promoteIme s.latch.imePending) (exec i s)
  | .error _ => .fault .logicInvariant

/-- The start of a step: the outputs of the last one are gone, and the model's own step number
advances (log entries 9 and 16). -/
def beginStep (s : State) : State :=
  { s with
    out := { cycles := 0, apuWrites := [] }
    coord := { s.coord with frameReady := false }
    tick := s.tick + 1 }

/-- Leave the halted state (45_system.md R403). -/
def State.wake (s : State) : State := { s with latch := { s.latch with halted := false } }

/-- The CPU step: dispatch an interrupt, or spend a halted quantum, or execute one instruction
(30_encoding.md R190, 60_exceptions.md R432). -/
def cpuStep (s : State) : Answer State :=
  if s.latch.ime && hasPending s then .next (dispatchInterrupt s)
  else if s.latch.halted && !hasPending s then .next (haltedQuantum s)
  else fetchAndExecute s.wake

/-- The frame's cycle target (60_exceptions.md R506). -/
def frameTarget (s : State) : Nat := 70224 * speed s

/-- Frame completion; the frame published is the frame buffer as it stands (60_exceptions.md R506). -/
def frameStep (n : Nat) (s : State) : State :=
  let acc := s.coord.frameAcc + n
  if frameTarget s ≤ acc then
    { s with coord := { frameAcc := acc - frameTarget s, frameReady := true } }
  else { s with coord := { s.coord with frameAcc := acc } }

/-- The devices' update for a step of `n` cycles: PPU, DIV, TIMA, frame counter (60_exceptions.md
R505). The APU's share is `out`. -/
def advanceDevices (n : Nat) (s : State) : State :=
  frameStep n (timaStep n (divStep n (ppuStep n s)))

/-- The machine step of a machine that has neither faulted nor refused (60_exceptions.md R505). -/
def machineStep (s : State) : Answer State :=
  mapNext (fun t => advanceDevices t.out.cycles t) (cpuStep (beginStep s))

/-- A faulted or refused machine never steps again: it answers the same reason (10_state.md R41,
70_reset_and_hazards.md R544). -/
def stepOrStopped (s : State) : Answer State :=
  match s.fault, s.refused with
  | some f, _ => .fault f
  | none, some r => .refused r
  | none, none => machineStep s

/-- Put a byte where a read of `addr` finds it, with no write effect: into the ROM image, a memory
array or external RAM. Where a read is computed or names a register, nothing changes (log entry 15). -/
def placeByte (s : State) (addr : Word) (v : Byte) : State :=
  let a := addr.toNat
  match regionOf a with
  | .rom =>
    let offset := s.cart.romOffset a
    { s with
      rom := if v = romBlank then Memory.drop s.rom offset else Memory.store s.rom offset v }
  | .vram => s.setRam a v
  | .external =>
    match s.cart.extTarget a with
    | .ram offset => s.setRam (extKey offset) v
    | .clock i => { s with cart := { s.cart with rtc := s.cart.rtc.put i v } }
    | .nothing => s
  | .wram => s.setRam a v
  | .echo => s.setRam (0xC000 + a % 0x2000) v
  | .oam => s.setRam a v
  | .unusable => s
  | .io =>
    match ioRegOf (a % 0x100) with
    | .plain => s.setRam a v
    | .audio => s.setRam a v
    | _ => s
  | .hram => s.setRam a v
  | .ie => { s with irq := { s.irq with ie := v } }

/-- Put bytes at an address and those after it. -/
def placeBytes : State → Word → List Byte → State
  | s, _, [] => s
  | s, a, v :: rest => placeBytes (placeByte s a v) (a + 1) rest

/-- The state in which the next step fetches at PC: not halted, no halt-bug shift, and no interrupt
dispatched in the instruction's place (log entry 15). -/
def readyToFetch (s : State) : State :=
  { s with
    latch :=
      { s.latch with
        halted := false, haltBug := false, ime := s.latch.ime && !hasPending s } }

end Sys2Proof.Machine
end

