-- ==== Sys2Proof/Machine/Step.lean ====
section
/-! DEFINITION. One step of the machine, and the placing of one instruction where it fetches next. Everything they do stands in Machine/Coordinator.lean. -/

namespace Sys2Proof.Machine

/-- One machine step (60_exceptions.md R505): one CPU step, then the devices by its cycles. -/
def step (s : State) : Host.Outcome State Fault Refusal := stepOrStopped s

/-- `s` with an instruction's bytes stored where the next step fetches: at PC (log entries 1, 8 and
15). -/
def State.withFetchWord (s : State) (nbits w : Nat) : State :=
  placeBytes (readyToFetch s) s.regs.pc (tableBytes nbits w)

end Sys2Proof.Machine
end

