-- ==== Sys2Proof/Machine/Forms.lean ====
section
/-! DEFINITION. The instructions of one form as a function of the form's operand fields, and the fields' codes (30_encoding.md R181 to R186). Statements about a form are made through these; each value is a constructor of Instr. -/

namespace Sys2Proof.Machine

/-- The field value of a register (30_encoding.md R184). -/
def Reg8.code : Reg8 → BitVec 3
  | .b => 0
  | .c => 1
  | .d => 2
  | .e => 3
  | .h => 4
  | .l => 5
  | .a => 7

/-- The field value that names (HL) (30_encoding.md R184). -/
def hlCode : BitVec 3 := 6

/-- The field value of a pair of `rp` (30_encoding.md R186). -/
def Pair.code : Pair → BitVec 2
  | .bc => 0
  | .de => 1
  | .hl => 2
  | .sp => 3

/-- The field value of a pair of `rp2` (30_encoding.md R186). -/
def StackPair.code : StackPair → BitVec 2
  | .bc => 0
  | .de => 1
  | .hl => 2
  | .af => 3

/-- The field value of a condition (30_encoding.md R185). -/
def Cond.code : Cond → BitVec 2
  | .nz => 0
  | .z => 1
  | .nc => 2
  | .c => 3

/-- The field value of an ALU operation (30_encoding.md R181, R187). -/
def AluOp.code : AluOp → BitVec 3
  | .add => 0
  | .adc => 1
  | .sub => 2
  | .sbc => 3
  | .and => 4
  | .xor => 5
  | .or => 6
  | .cp => 7

/-- The field value of a rotate or shift (30_encoding.md R182). -/
def RotOp.code : RotOp → BitVec 3
  | .rlc => 0
  | .rrc => 1
  | .rl => 2
  | .rr => 3
  | .sla => 4
  | .sra => 5
  | .swap => 6
  | .srl => 7

/-- LD r,r' (40_load.md R221). -/
def Forms.ldReg : Reg8 → Reg8 → Instr
  | .b, .b => .ldBB
  | .b, .c => .ldBC
  | .b, .d => .ldBD
  | .b, .e => .ldBE
  | .b, .h => .ldBH
  | .b, .l => .ldBL
  | .b, .a => .ldBA
  | .c, .b => .ldCB
  | .c, .c => .ldCC
  | .c, .d => .ldCD
  | .c, .e => .ldCE
  | .c, .h => .ldCH
  | .c, .l => .ldCL
  | .c, .a => .ldCA
  | .d, .b => .ldDB
  | .d, .c => .ldDC
  | .d, .d => .ldDD
  | .d, .e => .ldDE
  | .d, .h => .ldDH
  | .d, .l => .ldDL
  | .d, .a => .ldDA
  | .e, .b => .ldEB
  | .e, .c => .ldEC
  | .e, .d => .ldED
  | .e, .e => .ldEE
  | .e, .h => .ldEH
  | .e, .l => .ldEL
  | .e, .a => .ldEA
  | .h, .b => .ldHB
  | .h, .c => .ldHC
  | .h, .d => .ldHD
  | .h, .e => .ldHE
  | .h, .h => .ldHH
  | .h, .l => .ldHL
  | .h, .a => .ldHA
  | .l, .b => .ldLB
  | .l, .c => .ldLC
  | .l, .d => .ldLD
  | .l, .e => .ldLE
  | .l, .h => .ldLH
  | .l, .l => .ldLL
  | .l, .a => .ldLA
  | .a, .b => .ldAB
  | .a, .c => .ldAC
  | .a, .d => .ldAD
  | .a, .e => .ldAE
  | .a, .h => .ldAH
  | .a, .l => .ldAL
  | .a, .a => .ldAA

/-- LD r,(HL) (40_load.md R222). -/
def Forms.ldFromHl : Reg8 → Instr
  | .b => .ldBIndHL
  | .c => .ldCIndHL
  | .d => .ldDIndHL
  | .e => .ldEIndHL
  | .h => .ldHIndHL
  | .l => .ldLIndHL
  | .a => .ldAIndHL

/-- LD (HL),r (40_load.md R223). -/
def Forms.ldToHl : Reg8 → Instr
  | .b => .ldIndHLB
  | .c => .ldIndHLC
  | .d => .ldIndHLD
  | .e => .ldIndHLE
  | .h => .ldIndHLH
  | .l => .ldIndHLL
  | .a => .ldIndHLA

/-- LD r,d8 (40_load.md R224). -/
def Forms.ldImm (x : Reg8) (d8 : Byte) : Instr :=
  match x with
  | .b => .ldBD8 d8
  | .c => .ldCD8 d8
  | .d => .ldDD8 d8
  | .e => .ldED8 d8
  | .h => .ldHD8 d8
  | .l => .ldLD8 d8
  | .a => .ldAD8 d8

/-- LD rr,d16 (40_load.md R240). -/
def Forms.ldPair (x : Pair) (d16 : Word) : Instr :=
  match x with
  | .bc => .ldBCD16 d16
  | .de => .ldDED16 d16
  | .hl => .ldHLD16 d16
  | .sp => .ldSPD16 d16

/-- PUSH rr (40_load.md R243). -/
def Forms.push : StackPair → Instr
  | .bc => .pushBC
  | .de => .pushDE
  | .hl => .pushHL
  | .af => .pushAF

/-- POP rr (40_load.md R244). -/
def Forms.pop : StackPair → Instr
  | .bc => .popBC
  | .de => .popDE
  | .hl => .popHL
  | .af => .popAF

/-- An ALU operation with a register (41_alu8.md R264 to R285). -/
def Forms.aluReg : AluOp → Reg8 → Instr
  | .add, .b => .addAB
  | .add, .c => .addAC
  | .add, .d => .addAD
  | .add, .e => .addAE
  | .add, .h => .addAH
  | .add, .l => .addAL
  | .add, .a => .addAA
  | .adc, .b => .adcAB
  | .adc, .c => .adcAC
  | .adc, .d => .adcAD
  | .adc, .e => .adcAE
  | .adc, .h => .adcAH
  | .adc, .l => .adcAL
  | .adc, .a => .adcAA
  | .sub, .b => .subB
  | .sub, .c => .subC
  | .sub, .d => .subD
  | .sub, .e => .subE
  | .sub, .h => .subH
  | .sub, .l => .subL
  | .sub, .a => .subA
  | .sbc, .b => .sbcAB
  | .sbc, .c => .sbcAC
  | .sbc, .d => .sbcAD
  | .sbc, .e => .sbcAE
  | .sbc, .h => .sbcAH
  | .sbc, .l => .sbcAL
  | .sbc, .a => .sbcAA
  | .and, .b => .andB
  | .and, .c => .andC
  | .and, .d => .andD
  | .and, .e => .andE
  | .and, .h => .andH
  | .and, .l => .andL
  | .and, .a => .andA
  | .xor, .b => .xorB
  | .xor, .c => .xorC
  | .xor, .d => .xorD
  | .xor, .e => .xorE
  | .xor, .h => .xorH
  | .xor, .l => .xorL
  | .xor, .a => .xorA
  | .or, .b => .orB
  | .or, .c => .orC
  | .or, .d => .orD
  | .or, .e => .orE
  | .or, .h => .orH
  | .or, .l => .orL
  | .or, .a => .orA
  | .cp, .b => .cpB
  | .cp, .c => .cpC
  | .cp, .d => .cpD
  | .cp, .e => .cpE
  | .cp, .h => .cpH
  | .cp, .l => .cpL
  | .cp, .a => .cpA

/-- An ALU operation with the byte at HL (41_alu8.md R265 to R286). -/
def Forms.aluHl : AluOp → Instr
  | .add => .addAIndHL
  | .adc => .adcAIndHL
  | .sub => .subIndHL
  | .sbc => .sbcAIndHL
  | .and => .andIndHL
  | .xor => .xorIndHL
  | .or => .orIndHL
  | .cp => .cpIndHL

/-- An ALU operation with an immediate byte (41_alu8.md R266 to R287). -/
def Forms.aluImm (x : AluOp) (d8 : Byte) : Instr :=
  match x with
  | .add => .addAD8 d8
  | .adc => .adcAD8 d8
  | .sub => .subD8 d8
  | .sbc => .sbcAD8 d8
  | .and => .andD8 d8
  | .xor => .xorD8 d8
  | .or => .orD8 d8
  | .cp => .cpD8 d8

/-- INC r (41_alu8.md R288). -/
def Forms.incReg : Reg8 → Instr
  | .b => .incB
  | .c => .incC
  | .d => .incD
  | .e => .incE
  | .h => .incH
  | .l => .incL
  | .a => .incA

/-- DEC r (41_alu8.md R290). -/
def Forms.decReg : Reg8 → Instr
  | .b => .decB
  | .c => .decC
  | .d => .decD
  | .e => .decE
  | .h => .decH
  | .l => .decL
  | .a => .decA

/-- ADD HL,rr (42_alu16.md R321). -/
def Forms.addHl : Pair → Instr
  | .bc => .addHLBC
  | .de => .addHLDE
  | .hl => .addHLHL
  | .sp => .addHLSP

/-- INC rr (42_alu16.md R322). -/
def Forms.incPair : Pair → Instr
  | .bc => .incBC
  | .de => .incDE
  | .hl => .incHL
  | .sp => .incSP

/-- DEC rr (42_alu16.md R323). -/
def Forms.decPair : Pair → Instr
  | .bc => .decBC
  | .de => .decDE
  | .hl => .decHL
  | .sp => .decSP

/-- A CB rotate or shift of a register (43_rotate_bit.md R345 to R359). -/
def Forms.rotReg : RotOp → Reg8 → Instr
  | .rlc, .b => .rlcB
  | .rlc, .c => .rlcC
  | .rlc, .d => .rlcD
  | .rlc, .e => .rlcE
  | .rlc, .h => .rlcH
  | .rlc, .l => .rlcL
  | .rlc, .a => .rlcA
  | .rrc, .b => .rrcB
  | .rrc, .c => .rrcC
  | .rrc, .d => .rrcD
  | .rrc, .e => .rrcE
  | .rrc, .h => .rrcH
  | .rrc, .l => .rrcL
  | .rrc, .a => .rrcA
  | .rl, .b => .rlB
  | .rl, .c => .rlC
  | .rl, .d => .rlD
  | .rl, .e => .rlE
  | .rl, .h => .rlH
  | .rl, .l => .rlL
  | .rl, .a => .rlA
  | .rr, .b => .rrB
  | .rr, .c => .rrC
  | .rr, .d => .rrD
  | .rr, .e => .rrE
  | .rr, .h => .rrH
  | .rr, .l => .rrL
  | .rr, .a => .rrA
  | .sla, .b => .slaB
  | .sla, .c => .slaC
  | .sla, .d => .slaD
  | .sla, .e => .slaE
  | .sla, .h => .slaH
  | .sla, .l => .slaL
  | .sla, .a => .slaA
  | .sra, .b => .sraB
  | .sra, .c => .sraC
  | .sra, .d => .sraD
  | .sra, .e => .sraE
  | .sra, .h => .sraH
  | .sra, .l => .sraL
  | .sra, .a => .sraA
  | .swap, .b => .swapB
  | .swap, .c => .swapC
  | .swap, .d => .swapD
  | .swap, .e => .swapE
  | .swap, .h => .swapH
  | .swap, .l => .swapL
  | .swap, .a => .swapA
  | .srl, .b => .srlB
  | .srl, .c => .srlC
  | .srl, .d => .srlD
  | .srl, .e => .srlE
  | .srl, .h => .srlH
  | .srl, .l => .srlL
  | .srl, .a => .srlA

/-- A CB rotate or shift of the byte at HL (43_rotate_bit.md R346 to R360). -/
def Forms.rotHl : RotOp → Instr
  | .rlc => .rlcIndHL
  | .rrc => .rrcIndHL
  | .rl => .rlIndHL
  | .rr => .rrIndHL
  | .sla => .slaIndHL
  | .sra => .sraIndHL
  | .swap => .swapIndHL
  | .srl => .srlIndHL

/-- BIT b,r (43_rotate_bit.md R361). -/
def Forms.bitReg : BitVec 3 → Reg8 → Instr
  | 0#3, .b => .bit0B
  | 0#3, .c => .bit0C
  | 0#3, .d => .bit0D
  | 0#3, .e => .bit0E
  | 0#3, .h => .bit0H
  | 0#3, .l => .bit0L
  | 0#3, .a => .bit0A
  | 1#3, .b => .bit1B
  | 1#3, .c => .bit1C
  | 1#3, .d => .bit1D
  | 1#3, .e => .bit1E
  | 1#3, .h => .bit1H
  | 1#3, .l => .bit1L
  | 1#3, .a => .bit1A
  | 2#3, .b => .bit2B
  | 2#3, .c => .bit2C
  | 2#3, .d => .bit2D
  | 2#3, .e => .bit2E
  | 2#3, .h => .bit2H
  | 2#3, .l => .bit2L
  | 2#3, .a => .bit2A
  | 3#3, .b => .bit3B
  | 3#3, .c => .bit3C
  | 3#3, .d => .bit3D
  | 3#3, .e => .bit3E
  | 3#3, .h => .bit3H
  | 3#3, .l => .bit3L
  | 3#3, .a => .bit3A
  | 4#3, .b => .bit4B
  | 4#3, .c => .bit4C
  | 4#3, .d => .bit4D
  | 4#3, .e => .bit4E
  | 4#3, .h => .bit4H
  | 4#3, .l => .bit4L
  | 4#3, .a => .bit4A
  | 5#3, .b => .bit5B
  | 5#3, .c => .bit5C
  | 5#3, .d => .bit5D
  | 5#3, .e => .bit5E
  | 5#3, .h => .bit5H
  | 5#3, .l => .bit5L
  | 5#3, .a => .bit5A
  | 6#3, .b => .bit6B
  | 6#3, .c => .bit6C
  | 6#3, .d => .bit6D
  | 6#3, .e => .bit6E
  | 6#3, .h => .bit6H
  | 6#3, .l => .bit6L
  | 6#3, .a => .bit6A
  | 7#3, .b => .bit7B
  | 7#3, .c => .bit7C
  | 7#3, .d => .bit7D
  | 7#3, .e => .bit7E
  | 7#3, .h => .bit7H
  | 7#3, .l => .bit7L
  | 7#3, .a => .bit7A

/-- BIT b,(HL) (43_rotate_bit.md R362). -/
def Forms.bitHl : BitVec 3 → Instr
  | 0#3 => .bit0IndHL
  | 1#3 => .bit1IndHL
  | 2#3 => .bit2IndHL
  | 3#3 => .bit3IndHL
  | 4#3 => .bit4IndHL
  | 5#3 => .bit5IndHL
  | 6#3 => .bit6IndHL
  | 7#3 => .bit7IndHL

/-- RES b,r (43_rotate_bit.md R363). -/
def Forms.resReg : BitVec 3 → Reg8 → Instr
  | 0#3, .b => .res0B
  | 0#3, .c => .res0C
  | 0#3, .d => .res0D
  | 0#3, .e => .res0E
  | 0#3, .h => .res0H
  | 0#3, .l => .res0L
  | 0#3, .a => .res0A
  | 1#3, .b => .res1B
  | 1#3, .c => .res1C
  | 1#3, .d => .res1D
  | 1#3, .e => .res1E
  | 1#3, .h => .res1H
  | 1#3, .l => .res1L
  | 1#3, .a => .res1A
  | 2#3, .b => .res2B
  | 2#3, .c => .res2C
  | 2#3, .d => .res2D
  | 2#3, .e => .res2E
  | 2#3, .h => .res2H
  | 2#3, .l => .res2L
  | 2#3, .a => .res2A
  | 3#3, .b => .res3B
  | 3#3, .c => .res3C
  | 3#3, .d => .res3D
  | 3#3, .e => .res3E
  | 3#3, .h => .res3H
  | 3#3, .l => .res3L
  | 3#3, .a => .res3A
  | 4#3, .b => .res4B
  | 4#3, .c => .res4C
  | 4#3, .d => .res4D
  | 4#3, .e => .res4E
  | 4#3, .h => .res4H
  | 4#3, .l => .res4L
  | 4#3, .a => .res4A
  | 5#3, .b => .res5B
  | 5#3, .c => .res5C
  | 5#3, .d => .res5D
  | 5#3, .e => .res5E
  | 5#3, .h => .res5H
  | 5#3, .l => .res5L
  | 5#3, .a => .res5A
  | 6#3, .b => .res6B
  | 6#3, .c => .res6C
  | 6#3, .d => .res6D
  | 6#3, .e => .res6E
  | 6#3, .h => .res6H
  | 6#3, .l => .res6L
  | 6#3, .a => .res6A
  | 7#3, .b => .res7B
  | 7#3, .c => .res7C
  | 7#3, .d => .res7D
  | 7#3, .e => .res7E
  | 7#3, .h => .res7H
  | 7#3, .l => .res7L
  | 7#3, .a => .res7A

/-- RES b,(HL) (43_rotate_bit.md R364). -/
def Forms.resHl : BitVec 3 → Instr
  | 0#3 => .res0IndHL
  | 1#3 => .res1IndHL
  | 2#3 => .res2IndHL
  | 3#3 => .res3IndHL
  | 4#3 => .res4IndHL
  | 5#3 => .res5IndHL
  | 6#3 => .res6IndHL
  | 7#3 => .res7IndHL

/-- SET b,r (43_rotate_bit.md R365). -/
def Forms.setReg : BitVec 3 → Reg8 → Instr
  | 0#3, .b => .set0B
  | 0#3, .c => .set0C
  | 0#3, .d => .set0D
  | 0#3, .e => .set0E
  | 0#3, .h => .set0H
  | 0#3, .l => .set0L
  | 0#3, .a => .set0A
  | 1#3, .b => .set1B
  | 1#3, .c => .set1C
  | 1#3, .d => .set1D
  | 1#3, .e => .set1E
  | 1#3, .h => .set1H
  | 1#3, .l => .set1L
  | 1#3, .a => .set1A
  | 2#3, .b => .set2B
  | 2#3, .c => .set2C
  | 2#3, .d => .set2D
  | 2#3, .e => .set2E
  | 2#3, .h => .set2H
  | 2#3, .l => .set2L
  | 2#3, .a => .set2A
  | 3#3, .b => .set3B
  | 3#3, .c => .set3C
  | 3#3, .d => .set3D
  | 3#3, .e => .set3E
  | 3#3, .h => .set3H
  | 3#3, .l => .set3L
  | 3#3, .a => .set3A
  | 4#3, .b => .set4B
  | 4#3, .c => .set4C
  | 4#3, .d => .set4D
  | 4#3, .e => .set4E
  | 4#3, .h => .set4H
  | 4#3, .l => .set4L
  | 4#3, .a => .set4A
  | 5#3, .b => .set5B
  | 5#3, .c => .set5C
  | 5#3, .d => .set5D
  | 5#3, .e => .set5E
  | 5#3, .h => .set5H
  | 5#3, .l => .set5L
  | 5#3, .a => .set5A
  | 6#3, .b => .set6B
  | 6#3, .c => .set6C
  | 6#3, .d => .set6D
  | 6#3, .e => .set6E
  | 6#3, .h => .set6H
  | 6#3, .l => .set6L
  | 6#3, .a => .set6A
  | 7#3, .b => .set7B
  | 7#3, .c => .set7C
  | 7#3, .d => .set7D
  | 7#3, .e => .set7E
  | 7#3, .h => .set7H
  | 7#3, .l => .set7L
  | 7#3, .a => .set7A

/-- SET b,(HL) (43_rotate_bit.md R366). -/
def Forms.setHl : BitVec 3 → Instr
  | 0#3 => .set0IndHL
  | 1#3 => .set1IndHL
  | 2#3 => .set2IndHL
  | 3#3 => .set3IndHL
  | 4#3 => .set4IndHL
  | 5#3 => .set5IndHL
  | 6#3 => .set6IndHL
  | 7#3 => .set7IndHL

/-- JP cc,a16 (44_control.md R382). -/
def Forms.jp (x : Cond) (a16 : Word) : Instr :=
  match x with
  | .nz => .jpNZA16 a16
  | .z => .jpZA16 a16
  | .nc => .jpNCA16 a16
  | .c => .jpCA16 a16

/-- JR cc,e8 (44_control.md R385). -/
def Forms.jr (x : Cond) (e8 : Byte) : Instr :=
  match x with
  | .nz => .jrNZE8 e8
  | .z => .jrZE8 e8
  | .nc => .jrNCE8 e8
  | .c => .jrCE8 e8

/-- CALL cc,a16 (44_control.md R387). -/
def Forms.call (x : Cond) (a16 : Word) : Instr :=
  match x with
  | .nz => .callNZA16 a16
  | .z => .callZA16 a16
  | .nc => .callNCA16 a16
  | .c => .callCA16 a16

/-- RET cc (44_control.md R389). -/
def Forms.ret : Cond → Instr
  | .nz => .retNZ
  | .z => .retZ
  | .nc => .retNC
  | .c => .retC

/-- RST t (44_control.md R391). -/
def Forms.rst : BitVec 3 → Instr
  | 0#3 => .rst00
  | 1#3 => .rst08
  | 2#3 => .rst10
  | 3#3 => .rst18
  | 4#3 => .rst20
  | 5#3 => .rst28
  | 6#3 => .rst30
  | 7#3 => .rst38

/-- The undefined opcodes, each with its byte (45_system.md R407). -/
def Forms.undefinedOpcodes : List (Instr × Byte) :=
  [(.illegalD3, 0xD3),
   (.illegalDB, 0xDB),
   (.illegalDD, 0xDD),
   (.illegalE3, 0xE3),
   (.illegalE4, 0xE4),
   (.illegalEB, 0xEB),
   (.illegalEC, 0xEC),
   (.illegalED, 0xED),
   (.illegalF4, 0xF4),
   (.illegalFC, 0xFC),
   (.illegalFD, 0xFD)]

end Sys2Proof.Machine
end

