-- ==== Sys2Proof/Machine/Construct.lean ====
section
/-! DEFINITION. Constructing a machine from an image: the load procedure (70_reset_and_hazards.md R520, R524, 20_memory.md R150 to R153). -/

namespace Sys2Proof.Machine

/-- The ROM image's bytes as cells, in canonical form. -/
def romCells : List Byte → Nat → Memory
  | [], _ => []
  | v :: rest, at_ =>
    if v = romBlank then romCells rest (at_ + 1) else (at_, v) :: romCells rest (at_ + 1)

/-- The number of 16 KiB banks of a ROM size code (20_memory.md R151). -/
def romBanksOf (code : Byte) : Option Nat :=
  if code.toNat ≤ 0x08 then some (2 * 2 ^ code.toNat) else none

/-- The number of RAM banks of a RAM size code, and whether the one bank is 2 KiB (20_memory.md
R151). -/
def ramBanksOf (code : Byte) : Option (Nat × Bool) :=
  match code.toNat with
  | 0x00 => some (0, false)
  | 0x01 => some (1, true)
  | 0x02 => some (1, false)
  | 0x03 => some (4, false)
  | 0x04 => some (16, false)
  | 0x05 => some (8, false)
  | _ => none

/-- The cartridge an image's header describes, or the reason the load is refused, in the order of
70_reset_and_hazards.md R524. -/
def cartOf (image : List Byte) : Except Refusal Cart :=
  if image.length < 0x0150 then .error .romSizeMismatch
  else
    let cartType := image.getD 0x0147 0
    match mapperOf cartType with
    | none => .error .unsupportedCartridge
    | some _ =>
      match romBanksOf (image.getD 0x0148 0) with
      | none => .error .unsupportedRomSize
      | some romBanks =>
        if image.length ≠ romBanks * 0x4000 then .error .romSizeMismatch
        else
          match ramBanksOf (image.getD 0x0149 0) with
          | none => .error .unsupportedRamSize
          | some (ramBanks, ram2K) => .ok (Cart.afterLoad cartType romBanks ramBanks ram2K)

/-- `construct(rom_image, parameters)` (70_reset_and_hazards.md R520, R524). A refused load leaves a
machine that never steps; that it holds a blank mapper-0 cartridge of 32 KiB without RAM is a DESIGN
CHOICE, log entry 25. -/
def construct (p : Params) (image : List Byte) : State :=
  match cartOf image with
  | .ok cart => State.afterReset p cart (romCells image 0)
  | .error r =>
    { State.afterReset p (Cart.afterLoad 0x00 2 0 false) [] with refused := some r }

end Sys2Proof.Machine
end

