-- ==== Sys2Proof/Machine/HostOps.lean ====
section
/-! DEFINITION. What the host can do between steps: set the buttons, run a batch, dump and load (70_reset_and_hazards.md R540 to R544, 20_memory.md R144). -/

namespace Sys2Proof.Machine

/-- IF bit 4, the Joypad source (60_exceptions.md R420). -/
def joypadBit : Byte := 0x10

/-- Whether some button is pressed in `after` and not in `before`. -/
def Buttons.newPress (before after : Buttons) : Bool :=
  ((before.dpad ++ before.keys : Byte) ||| (after.dpad ++ after.keys : Byte))
    != (before.dpad ++ before.keys : Byte)

/-- `set_buttons(b)`: a released-to-pressed change sets IF bit 4; the cached nibble is kept
(20_memory.md R143, R144). -/
def setButtons (b : Buttons) (s : State) : State :=
  let t := { s with pad := { s.pad with buttons := b } }
  if s.pad.buttons.newPress b then t.request joypadBit else t

/-- How a batch ended (70_reset_and_hazards.md R543). -/
inductive RunEnd where
  | completed
  | stopped
  | faulted (f : Fault)
  | refused (r : Refusal)
  deriving DecidableEq, Repr

/-- What `run` gives the host: the cycles spent, how it ended, the machine, the frames completed in
order, and each step's APU call (70_reset_and_hazards.md R540, R543). -/
structure RunResult where
  spent : Nat
  ended : RunEnd
  machine : State
  frames : List (List (List Shade))
  apuCalls : List Outputs
  deriving DecidableEq, Repr

/-- One more step's outputs in front of a run's. -/
def RunResult.after (r : RunResult) (t : State) : RunResult :=
  { r with
    frames := if t.coord.frameReady then t.ppu.frame :: r.frames else r.frames
    apuCalls := t.out :: r.apuCalls }

/-- The loop of `run(n)` (70_reset_and_hazards.md R543): `stops` tells for each step whether the stop
signal is seen before it (an exhausted list: not seen); `fuel` bounds the steps. A machine whose step
faults or refuses is recorded as it was before that step, `halted` and `haltBug` kept: DESIGN CHOICE,
log entry 23. -/
def runLoop : Nat → Nat → List Bool → Nat → State → RunResult
  | 0, _, _, spent, s => ⟨spent, .completed, s, [], []⟩
  | fuel + 1, n, stops, spent, s =>
    if n ≤ spent then ⟨spent, .completed, s, [], []⟩
    else if stops.headD false then ⟨spent, .stopped, s, [], []⟩
    else
      match step s with
      | .next t => (runLoop fuel n stops.tail (spent + t.out.cycles) t).after t
      | .fault f => ⟨spent, .faulted f, { s with fault := some f }, [], []⟩
      | .refused r => ⟨spent, .refused r, { s with refused := some r }, [], []⟩

/-- `run(n)` (70_reset_and_hazards.md R543). Every step spends at least one cycle, so `n` passes are
enough. Of a machine that has already stopped, a batch of 0 cycles is completed and one whose stop
signal is seen at once is stopped, as the rule's loop says, though R544 gives every later run the same
outcome: DESIGN CHOICE, log entry 24. -/
def run (n : Nat) (stops : List Bool) (s : State) : RunResult := runLoop n n stops 0 s

/-- The state of a cartridge controller, without the cartridge's header values, which are parameters
(10_state.md R73, 00_scope.md R8). -/
structure Controller where
  romBank : Nat
  ramBank : Nat
  ramEn : Bool
  bankMode : Bool
  bankLo : BitVec 5
  bankHi : BitVec 2
  romLo : Byte
  romHi : BitVec 1
  rtc : Rtc
  rumble : Bool
  deriving DecidableEq, Repr

/-- The controller's state. -/
def Cart.controller (c : Cart) : Controller :=
  { romBank := c.romBank, ramBank := c.ramBank, ramEn := c.ramEn, bankMode := c.bankMode
    bankLo := c.bankLo, bankHi := c.bankHi, romLo := c.romLo, romHi := c.romHi, rtc := c.rtc
    rumble := c.rumble }

/-- A cartridge with another controller state. The bank indices are reduced modulo this cartridge's
counts, as they always are (20_memory.md R129), mapper 3's select value apart (R124). Log entry 19. -/
def Cart.withController (c : Cart) (k : Controller) : Cart :=
  { c with
    romBank := k.romBank % c.romBanks
    ramBank :=
      match c.mapper with
      | .mapper3 => k.ramBank
      | .mapper0 | .mapper1 | .mapper5 => k.ramBank % max c.ramBanks 1
    ramEn := k.ramEn, bankMode := k.bankMode, bankLo := k.bankLo, bankHi := k.bankHi
    romLo := k.romLo, romHi := k.romHi, rtc := k.rtc, rumble := k.rumble }

/-- A save state: all the state of 10_state.md, in the order of 70_reset_and_hazards.md R541, the items
the source's list leaves out after it. The byte layout is host glue outside the CORE (decision D69),
so the components are kept as data: `lengths` holds the lengths of the byte arrays VRAM, WRAM0, WRAM1,
I/O, OAM, HRAM and external RAM, and `arrays` their bytes as listed cells. The ROM image, the other
parameters and the buttons are arguments of the machine and not its state (00_scope.md R8), and the
counters of the APU are outside the CORE (R5). Log entry 19. -/
structure SaveState where
  lengths : List Nat
  arrays : Memory
  regs : Regs
  timer : Timer
  ppu : Ppu
  p1Sel : BitVec 2
  p1Low : BitVec 4
  latch : Latches
  controller : Controller
  irq : Irq
  lcd : LcdRegs
  serial : Serial
  key1 : Byte
  coord : Coord
  fault : Option Fault
  refused : Option Refusal
  deriving DecidableEq, Repr

/-- The lengths of a machine's byte arrays, in the order of `SaveState.lengths` (10_state.md R76,
20_memory.md R151). -/
def Cart.arrayLengths (c : Cart) : List Nat :=
  [0x2000, 0x1000, 0x1000, 128, 160, 127, c.externalLength]

/-- `dump()` (70_reset_and_hazards.md R541). -/
def dump (s : State) : SaveState :=
  { lengths := s.cart.arrayLengths, arrays := s.mem, regs := s.regs, timer := s.timer, ppu := s.ppu
    p1Sel := s.pad.sel, p1Low := s.pad.low, latch := s.latch, controller := s.cart.controller
    irq := s.irq, lcd := s.lcd, serial := s.serial, key1 := s.key1, coord := s.coord
    fault := s.fault, refused := s.refused }

/-- Why a load is rejected; not a refusal of the machine (70_reset_and_hazards.md R542, C6). -/
inductive LoadReject where
  | malformedSaveState
  deriving DecidableEq, Repr

/-- Whether a frame buffer has 144 rows of 160 shades (10_state.md R72). -/
def frameFits (frame : List (List Shade)) : Bool :=
  frame.length == 144 && frame.all fun row => row.length == 160

/-- Whether a save state has exactly the lengths the current cartridge's layout needs
(70_reset_and_hazards.md R542): each byte array, whose listed bytes are its own, and the frame
buffer. The other items have one length on every cartridge, and their types hold it. -/
def SaveState.fits (d : SaveState) (s : State) : Bool :=
  decide (d.lengths = s.cart.arrayLengths) && frameFits d.ppu.frame
    && decide (Memory.wf d.arrays) && d.arrays.all fun p => s.cart.hasKey p.1

/-- A machine with every piece of state replaced by a save state's (70_reset_and_hazards.md R541). -/
def SaveState.restore (d : SaveState) (s : State) : State :=
  { s with
    mem := d.arrays, regs := d.regs, timer := d.timer, ppu := d.ppu
    pad := { sel := d.p1Sel, low := d.p1Low, buttons := s.pad.buttons }, latch := d.latch
    cart := s.cart.withController d.controller, irq := d.irq, lcd := d.lcd, serial := d.serial
    key1 := d.key1, coord := d.coord, fault := d.fault, refused := d.refused }

/-- What `load` gives the host: the machine, and the report where the load was rejected
(70_reset_and_hazards.md R540, R542). -/
structure LoadResult where
  machine : State
  report : Option LoadReject
  deriving DecidableEq, Repr

/-- `load(bytes)`: every piece of state is replaced; a save state that does not fit is rejected,
which is reported and changes nothing (70_reset_and_hazards.md R541, R542). -/
def load (d : SaveState) (s : State) : LoadResult :=
  if d.fits s then ⟨d.restore s, none⟩ else ⟨s, some .malformedSaveState⟩

end Sys2Proof.Machine
end

