-- ==== Sys2Proof/Safety.lean ====
section
/-! DEFINITION. The terms statements are made in: what an instruction leaves unchanged, which addresses a write reaches, the spec's recipes as relations, and the invariants of the machine. -/

namespace Sys2Proof.Machine

/-- `t` is `u` in everything but the register file and the cycles recorded: memory, devices,
cartridge, latches, interrupt registers, parameters and outputs to the APU are those of `u`. -/
def SameButRegs (u t : State) : Prop :=
  t = { u with regs := t.regs, out := { u.out with cycles := t.out.cycles } }

/-- PC has advanced past an instruction of `len` bytes, and the step took `cycles` cycles
(30_encoding.md R190, R192). -/
def Advances (s t : State) (len cycles : Nat) : Prop :=
  t.regs.pc = nextPc s len ∧ t.out.cycles = cycles

/-- PC is a transfer's target, and the step took `cycles` cycles (44_control.md R380). -/
def GoesTo (t : State) (target : Word) (cycles : Nat) : Prop :=
  t.regs.pc = target ∧ t.out.cycles = cycles

/-- Every 8-bit register but those listed is unchanged. -/
def KeepsRegs (s t : State) (except : List Reg8) : Prop := ∀ k, k ∉ except → t.reg k = s.reg k

/-- The flags are unchanged. -/
def KeepsFlags (s t : State) : Prop := t.regs.flags = s.regs.flags

/-- SP is unchanged. -/
def KeepsSp (s t : State) : Prop := t.regs.sp = s.regs.sp

/-- Every byte of the address space reads as before. -/
def KeepsMemory (s t : State) : Prop := ∀ b, memRead t b = memRead s b

/-- The frame of an instruction that stores nothing: the registers in `except` apart, nothing
changes but flags, SP and PC, and the halt-bug latch is clear (30_encoding.md R191). -/
def RegisterOnly (s t : State) (except : List Reg8) : Prop :=
  KeepsRegs s t except ∧ SameButRegs s.clearHaltBug t ∧ KeepsMemory s t

/-- Whether a write at `a` may change what a read of `b` gives, for the cartridge `c` (20_memory.md
R107, R110, R113, R120 to R128, R137, R139, 60_exceptions.md R469). -/
def writeReaches (c : Cart) (a b : Nat) : Bool :=
  match regionOf a with
  | .rom => decide (regionOf b = .rom ∧ 0x4000 ≤ b) || decide (regionOf b = .external)
  | .vram => b == a
  | .external =>
    decide (regionOf b = .external ∧ c.extTarget a ≠ .nothing ∧ c.extTarget b = c.extTarget a)
  | .wram => b == a || decide (regionOf b = .echo ∧ b = a + 0x2000)
  | .echo => b == a || b == 0xC000 + a % 0x2000
  | .oam => b == a
  | .unusable => false
  | .io =>
    match ioRegOf (a % 0x100) with
    | .dma => b == a || decide (regionOf b = .oam)
    | .lcdc => b == 0xFF40 || b == 0xFF41 || b == 0xFF44
    | .ly => false
    | _ => b == a
  | .hram => b == a
  | .ie => b == a

/-- Whether a read of `a` gives back the byte last written there (10_state.md section 3, 20_memory.md
R107, R110, R123, R125, R136). -/
def readsBack (s : State) (a : Nat) : Bool :=
  match regionOf a with
  | .rom => false
  | .vram => true
  | .external =>
    match s.cart.extTarget a with
    | .nothing => false
    | .ram _ => true
    | .clock _ => decide (s.params.rtcModel = .shadow)
  | .wram => true
  | .echo => true
  | .oam => true
  | .unusable => false
  | .io =>
    match ioRegOf (a % 0x100) with
    | .p1 => false
    | .div => false
    | .stat => false
    | .ly => false
    | .key1 => decide (s.params.bootProfile = .dmg)
    | _ => true
  | .hram => true
  | .ie => true

/-- Everything a store of byte `v` at address `a` does, registers and cycles apart: the stored byte
reads back where the address stores plainly, every address the write does not reach reads as
before, and the devices are as the dispatcher's write leaves them. -/
def StoresByte (s t : State) (a : Word) (v : Byte) : Prop :=
  (readsBack s a.toNat = true → memRead t a = v)
    ∧ (∀ b : Word, writeReaches s.cart a.toNat b.toNat = false → memRead t b = memRead s b)
    ∧ SameButRegs (memWrite s.clearHaltBug a v) t

/-- Everything two stores do, `v` at `a` and then `w` at `b`, registers and cycles apart: the second
byte reads back, the first does too where the second does not reach it, and every other byte reads as
before. -/
def StoresTwo (s t : State) (a : Word) (v : Byte) (b : Word) (w : Byte) : Prop :=
  let first := memWrite s.clearHaltBug a v
  (readsBack first b.toNat = true → memRead t b = w)
    ∧ (readsBack s a.toNat = true → writeReaches first.cart b.toNat a.toNat = false → memRead t a = v)
    ∧ (∀ x : Word, writeReaches s.cart a.toNat x.toNat = false →
        writeReaches first.cart b.toNat x.toNat = false → memRead t x = memRead s x)
    ∧ SameButRegs (memWrite first b w) t

/-- A word pushed: SP goes down by two, the high byte is stored first, at SP-1, then the low byte at
SP-2 (44_control.md R380). -/
def PushesWord (s t : State) (v : Word) : Prop :=
  t.regs.sp = s.regs.sp - 2
    ∧ StoresTwo s t (s.regs.sp - 1) (highByte v) (s.regs.sp - 2) (lowByte v)

/-- What an instruction that sets one register and nothing else does: register `k` becomes `v`. -/
def SetsRegister (s t : State) (k : Reg8) (v : Byte) (len cycles : Nat) : Prop :=
  t.reg k = v ∧ KeepsFlags s t ∧ KeepsSp s t ∧ Advances s t len cycles ∧ RegisterOnly s t [k]

/-- What an instruction that stores one byte and nothing else does. -/
def StoresOnly (s t : State) (a : Word) (v : Byte) (len cycles : Nat) : Prop :=
  StoresByte s t a v ∧ KeepsRegs s t [] ∧ KeepsFlags s t ∧ KeepsSp s t ∧ Advances s t len cycles

/-- What an instruction that only sets PC does. -/
def Jumps (s t : State) (target : Word) (cycles : Nat) : Prop :=
  GoesTo t target cycles ∧ KeepsFlags s t ∧ KeepsSp s t ∧ RegisterOnly s t []

/-- What a call does: the return address pushed, and PC at the target (44_control.md R386). -/
def Calls (s t : State) (target : Word) (cycles : Nat) (ret : Word) : Prop :=
  GoesTo t target cycles ∧ PushesWord s t ret ∧ KeepsRegs s t [] ∧ KeepsFlags s t

/-- What a return does: PC popped, the low byte at SP and the high byte at SP+1 (44_control.md
R388). -/
def Returns (s t : State) (cycles : Nat) : Prop :=
  GoesTo t (wordOf (memRead s (s.regs.sp + 1)) (memRead s s.regs.sp)) cycles
    ∧ t.regs.sp = s.regs.sp + 2 ∧ KeepsFlags s t ∧ RegisterOnly s t []

/-- What an instruction that changes latches only does. -/
def SetsLatches (s t : State) (l : Latches) (len cycles : Nat) : Prop :=
  Advances s t len cycles ∧ KeepsRegs s t [] ∧ KeepsFlags s t ∧ KeepsSp s t ∧ KeepsMemory s t
    ∧ SameButRegs { s with latch := l } t

/-- The 8-bit registers a pair of `rp` is made of (10_state.md R31). -/
def Pair.halves : Pair → List Reg8
  | .bc => [.b, .c]
  | .de => [.d, .e]
  | .hl => [.h, .l]
  | .sp => []

/-- The 8-bit registers a pair of `rp2` is made of, F apart (10_state.md R31). -/
def StackPair.halves : StackPair → List Reg8
  | .bc => [.b, .c]
  | .de => [.d, .e]
  | .hl => [.h, .l]
  | .af => [.a]

/-- The condition of a condition field (30_encoding.md R185). -/
def CondMet (cc : Cond) (f : Flags) : Prop :=
  match cc with
  | .nz => f.z = false
  | .z => f.z = true
  | .nc => f.c = false
  | .c => f.c = true

/-- The add recipe as a relation (41_alu8.md R261). -/
def AddRecipe (a b : Byte) (carry : Nat) (res : Byte) (f : Flags) : Prop :=
  res.toNat = (a.toNat + b.toNat + carry) % 256
    ∧ (f.z = true ↔ res = 0) ∧ f.n = false
    ∧ (f.h = true ↔ 15 < a.toNat % 16 + b.toNat % 16 + carry)
    ∧ (f.c = true ↔ 255 < a.toNat + b.toNat + carry)

/-- The subtract recipe as a relation (41_alu8.md R262). -/
def SubRecipe (a b : Byte) (borrow : Nat) (res : Byte) (f : Flags) : Prop :=
  (res.toNat : Int) = ((a.toNat : Int) - b.toNat - borrow) % 256
    ∧ (f.z = true ↔ res = 0) ∧ f.n = true
    ∧ (f.h = true ↔ a.toNat % 16 < b.toNat % 16 + borrow)
    ∧ (f.c = true ↔ a.toNat < b.toNat + borrow)

/-- The logic recipes as a relation (41_alu8.md R263). -/
def LogicRecipe (bitOf : Bool → Bool → Bool) (a b : Byte) (h : Bool) (res : Byte) (f : Flags) : Prop :=
  (∀ i, i < 8 → res.getLsbD i = bitOf (a.getLsbD i) (b.getLsbD i))
    ∧ (f.z = true ↔ res = 0) ∧ f.n = false ∧ f.h = h ∧ f.c = false

/-- What each ALU operation leaves in A and the flags, from A, its operand and the carry flag
(41_alu8.md R264 to R287). -/
def AluRecipe (op : AluOp) (a v : Byte) (c : Bool) (res : Byte) (f : Flags) : Prop :=
  match op with
  | .add => AddRecipe a v 0 res f
  | .adc => AddRecipe a v c.toNat res f
  | .sub => SubRecipe a v 0 res f
  | .sbc => SubRecipe a v c.toNat res f
  | .and => LogicRecipe (· && ·) a v true res f
  | .xor => LogicRecipe (fun x y => x != y) a v false res f
  | .or => LogicRecipe (· || ·) a v false res f
  | .cp => res = a ∧ ∃ difference, SubRecipe a v 0 difference f

/-- INC's flags on the old byte `v`; C as it was (41_alu8.md R288). -/
def IncRecipe (v : Byte) (f g : Flags) : Prop :=
  (g.z = true ↔ v = 0xFF) ∧ g.n = false ∧ (g.h = true ↔ v.toNat % 16 = 15) ∧ g.c = f.c

/-- DEC's flags on the old byte `v`; C as it was (41_alu8.md R290). -/
def DecRecipe (v : Byte) (f g : Flags) : Prop :=
  (g.z = true ↔ v = 1) ∧ g.n = true ∧ (g.h = true ↔ v.toNat % 16 = 0) ∧ g.c = f.c

/-- The SP-offset recipe as a relation (42_alu16.md R320). -/
def SpOffsetRecipe (sp : Word) (n : Byte) (res : Word) (f : Flags) : Prop :=
  (res.toNat : Int) = ((sp.toNat : Int) + n.toInt) % 65536
    ∧ f.z = false ∧ f.n = false
    ∧ (f.h = true ↔ 15 < sp.toNat % 16 + n.toNat % 16)
    ∧ (f.c = true ↔ 255 < sp.toNat % 256 + n.toNat)

/-- Bit `i` of the result of a rotate or shift of `v`, and the bit shifted out (43_rotate_bit.md
R340). -/
def RotRecipe (k : RotOp) (v : Byte) (cin : Bool) (res : Byte) (cout : Bool) : Prop :=
  match k with
  | .rlc => (∀ i, i < 8 → res.getLsbD i = v.getLsbD ((i + 7) % 8)) ∧ cout = v.getLsbD 7
  | .rrc => (∀ i, i < 8 → res.getLsbD i = v.getLsbD ((i + 1) % 8)) ∧ cout = v.getLsbD 0
  | .rl =>
    (∀ i, i < 8 → res.getLsbD i = if i = 0 then cin else v.getLsbD (i - 1)) ∧ cout = v.getLsbD 7
  | .rr =>
    (∀ i, i < 8 → res.getLsbD i = if i = 7 then cin else v.getLsbD (i + 1)) ∧ cout = v.getLsbD 0
  | .sla =>
    (∀ i, i < 8 → res.getLsbD i = if i = 0 then false else v.getLsbD (i - 1)) ∧ cout = v.getLsbD 7
  | .sra =>
    (∀ i, i < 8 → res.getLsbD i = if i = 7 then v.getLsbD 7 else v.getLsbD (i + 1))
      ∧ cout = v.getLsbD 0
  | .swap => (∀ i, i < 8 → res.getLsbD i = v.getLsbD ((i + 4) % 8)) ∧ cout = false
  | .srl =>
    (∀ i, i < 8 → res.getLsbD i = if i = 7 then false else v.getLsbD (i + 1)) ∧ cout = v.getLsbD 0

/-- The cartridge's bank indices are below their counts (20_memory.md R129). -/
def CartOk (c : Cart) : Prop :=
  0 < c.romBanks ∧ c.romBank < c.romBanks
    ∧ (c.mapper ≠ .mapper3 → c.ramBank < max c.ramBanks 1)
    ∧ (c.ram2K = true → c.ramBanks = 1)

/-- Every listed byte is one of the machine's memory arrays (10_state.md R76), and both lists are in
canonical form. -/
def MemoryOk (s : State) : Prop :=
  Memory.wf s.mem ∧ Memory.romWf s.rom ∧ ∀ p ∈ s.mem, s.cart.hasKey p.1 = true

/-- The PPU's state is one of 10_state.md R71: LY below 154 and in VBlank exactly from line 144, `dot`
below the mode's width, the frame 144 rows of 160, and while the LCD is off the stopped state of
60_exceptions.md R469. -/
def PpuOk (s : State) : Prop :=
  s.ppu.ly.toNat < 154 ∧ (s.ppu.mode = .vblank ↔ 144 ≤ s.ppu.ly.toNat) ∧ s.ppu.dot < modeWidth s
    ∧ (lcdOn s = false → s.ppu.mode = .hblank ∧ s.ppu.ly = 0 ∧ s.ppu.dot = 0)
    ∧ s.ppu.frame.length = 144 ∧ ∀ row ∈ s.ppu.frame, row.length = 160

/-- The accumulators are below their bounds (10_state.md R70, R75). -/
def CountersOk (s : State) : Prop :=
  0 < s.params.divPeriodDs ∧ s.timer.divAcc < divPeriod s ∧ s.timer.timaAcc < 1024
    ∧ s.coord.frameAcc < 2 * 70224

/-- The invariant of the machine. -/
def Inv (s : State) : Prop := CartOk s.cart ∧ MemoryOk s ∧ PpuOk s ∧ CountersOk s

/-- The shade a sprite gives column `x` of line `y`, if it draws there (60_exceptions.md R478). -/
def spriteShadeAt (s : State) (y x : Nat) (p : Sprite) : Option Shade :=
  if x + 8 < p.x.toNat ∨ p.x.toNat + 8 ≤ x + 8 then none
  else
    let colour := spriteColour s p y (x + 8 - p.x.toNat)
    if colour = 0 then none
    else if p.attr.getLsbD 7 ∧ rawColour s y x ≠ 0 then none
    else some (paletteShade (if p.attr.getLsbD 4 then s.lcd.obp1 else s.lcd.obp0) colour)

end Sys2Proof.Machine
end

