-- ==== Sys2Proof/Certificates/Slice0/Obligations.lean ====
section
/-! DEFINITION. The statements for the provers. Each docstring names the rule of spec/ it states. Those of one instruction or form say its encoding, that `exec` answers a next state in every state, what that state is, and what it leaves unchanged. -/

open Sys2Proof Sys2Proof.Machine

/-! ### Loads (40_load.md) -/

/-- LD r,r' (R221). -/
def Obligations.LoadRegisterFromRegister : Prop :=
  ∀ (s : State) (dst src : Reg8),
    encode (Forms.ldReg dst src) = [1#2 ++ (dst.code ++ src.code)]
      ∧ ∃ t, exec (Forms.ldReg dst src) s = .next t ∧ SetsRegister s t dst (s.reg src) 1 4

/-- LD r,(HL) (R222), where the address is the old HL also where r is H or L, and LD (HL),r (R223). -/
def Obligations.RegisterAndMemoryAtHl : Prop :=
  ∀ (s : State) (r : Reg8),
    (encode (Forms.ldFromHl r) = [1#2 ++ (r.code ++ 6#3)]
      ∧ ∃ t, exec (Forms.ldFromHl r) s = .next t
        ∧ SetsRegister s t r (memRead s (s.pair .hl)) 1 8)
    ∧ (encode (Forms.ldToHl r) = [1#2 ++ (6#3 ++ r.code)]
      ∧ ∃ t, exec (Forms.ldToHl r) s = .next t ∧ StoresOnly s t (s.pair .hl) (s.reg r) 1 8)

/-- LD r,d8 (R224) and LD (HL),d8 (R225). -/
def Obligations.LoadImmediateByte : Prop :=
  ∀ (s : State) (dst : Reg8) (d8 : Byte),
    (encode (Forms.ldImm dst d8) = [0#2 ++ (dst.code ++ 6#3), d8]
      ∧ ∃ t, exec (Forms.ldImm dst d8) s = .next t ∧ SetsRegister s t dst d8 2 8)
    ∧ (encode (.ldIndHLD8 d8) = [0x36, d8]
      ∧ ∃ t, exec (.ldIndHLD8 d8) s = .next t ∧ StoresOnly s t (s.pair .hl) d8 2 12)

/-- LD A,(BC) (R226), LD A,(DE) (R227), LD A,(a16) (R234), LDH A,(a8) (R236), LDH A,(C) (R238). -/
def Obligations.LoadAccumulator : Prop :=
  ∀ (s : State) (a16 : Word) (a8 : Byte),
    (encode .ldAIndBC = [0x0A]
      ∧ ∃ t, exec .ldAIndBC s = .next t ∧ SetsRegister s t .a (memRead s (s.pair .bc)) 1 8)
    ∧ (encode .ldAIndDE = [0x1A]
      ∧ ∃ t, exec .ldAIndDE s = .next t ∧ SetsRegister s t .a (memRead s (s.pair .de)) 1 8)
    ∧ (encode (.ldAIndA16 a16) = [0xFA, lowByte a16, highByte a16]
      ∧ ∃ t, exec (.ldAIndA16 a16) s = .next t ∧ SetsRegister s t .a (memRead s a16) 3 16)
    ∧ (encode (.ldhAIndA8 a8) = [0xF0, a8]
      ∧ ∃ t, exec (.ldhAIndA8 a8) s = .next t
        ∧ SetsRegister s t .a (memRead s (0xFF00#16 + a8.setWidth 16)) 2 12)
    ∧ (encode .ldhAIndC = [0xF2]
      ∧ ∃ t, exec .ldhAIndC s = .next t
        ∧ SetsRegister s t .a (memRead s (0xFF00#16 + s.regs.c.setWidth 16)) 1 8)

/-- LD (BC),A (R228), LD (DE),A (R229), LD (a16),A (R235), LDH (a8),A (R237), LDH (C),A (R239). -/
def Obligations.StoreAccumulator : Prop :=
  ∀ (s : State) (a16 : Word) (a8 : Byte),
    (encode .ldIndBCA = [0x02]
      ∧ ∃ t, exec .ldIndBCA s = .next t ∧ StoresOnly s t (s.pair .bc) s.regs.a 1 8)
    ∧ (encode .ldIndDEA = [0x12]
      ∧ ∃ t, exec .ldIndDEA s = .next t ∧ StoresOnly s t (s.pair .de) s.regs.a 1 8)
    ∧ (encode (.ldIndA16A a16) = [0xEA, lowByte a16, highByte a16]
      ∧ ∃ t, exec (.ldIndA16A a16) s = .next t ∧ StoresOnly s t a16 s.regs.a 3 16)
    ∧ (encode (.ldhIndA8A a8) = [0xE0, a8]
      ∧ ∃ t, exec (.ldhIndA8A a8) s = .next t
        ∧ StoresOnly s t (0xFF00#16 + a8.setWidth 16) s.regs.a 2 12)
    ∧ (encode .ldhIndCA = [0xE2]
      ∧ ∃ t, exec .ldhIndCA s = .next t
        ∧ StoresOnly s t (0xFF00#16 + s.regs.c.setWidth 16) s.regs.a 1 8)

/-- LD A,(HL+) (R230), LD A,(HL-) (R231), LD (HL+),A (R232), LD (HL-),A (R233): HL steps by one,
wrapping, after the access. -/
def Obligations.StepHlTransfers : Prop :=
  ∀ s : State,
    (encode .ldAIndHLInc = [0x2A]
      ∧ ∃ t, exec .ldAIndHLInc s = .next t ∧ t.regs.a = memRead s (s.pair .hl)
        ∧ t.pair .hl = s.pair .hl + 1 ∧ KeepsFlags s t ∧ KeepsSp s t ∧ Advances s t 1 8
        ∧ RegisterOnly s t [.a, .h, .l])
    ∧ (encode .ldAIndHLDec = [0x3A]
      ∧ ∃ t, exec .ldAIndHLDec s = .next t ∧ t.regs.a = memRead s (s.pair .hl)
        ∧ t.pair .hl = s.pair .hl - 1 ∧ KeepsFlags s t ∧ KeepsSp s t ∧ Advances s t 1 8
        ∧ RegisterOnly s t [.a, .h, .l])
    ∧ (encode .ldIndHLIncA = [0x22]
      ∧ ∃ t, exec .ldIndHLIncA s = .next t ∧ StoresByte s t (s.pair .hl) s.regs.a
        ∧ t.pair .hl = s.pair .hl + 1 ∧ KeepsRegs s t [.h, .l] ∧ KeepsFlags s t ∧ KeepsSp s t
        ∧ Advances s t 1 8)
    ∧ (encode .ldIndHLDecA = [0x32]
      ∧ ∃ t, exec .ldIndHLDecA s = .next t ∧ StoresByte s t (s.pair .hl) s.regs.a
        ∧ t.pair .hl = s.pair .hl - 1 ∧ KeepsRegs s t [.h, .l] ∧ KeepsFlags s t ∧ KeepsSp s t
        ∧ Advances s t 1 8)

/-- LD rr,d16 (R240) and LD SP,HL (R242). -/
def Obligations.LoadPairs : Prop :=
  ∀ (s : State) (p : Pair) (d16 : Word),
    (encode (Forms.ldPair p d16) = [0#2 ++ (p.code ++ 1#4), lowByte d16, highByte d16]
      ∧ ∃ t, exec (Forms.ldPair p d16) s = .next t ∧ t.pair p = d16 ∧ KeepsFlags s t
        ∧ (p ≠ .sp → KeepsSp s t) ∧ Advances s t 3 12 ∧ RegisterOnly s t p.halves)
    ∧ (encode .ldSPHL = [0xF9]
      ∧ ∃ t, exec .ldSPHL s = .next t ∧ t.regs.sp = s.pair .hl ∧ KeepsFlags s t
        ∧ Advances s t 1 8 ∧ RegisterOnly s t [])

/-- LD (a16),SP (R241): the low byte at a16, then the high byte at a16 + 1, which wraps. -/
def Obligations.StoreStackPointer : Prop :=
  ∀ (s : State) (a16 : Word),
    encode (.ldIndA16SP a16) = [0x08, lowByte a16, highByte a16]
      ∧ ∃ t, exec (.ldIndA16SP a16) s = .next t
        ∧ StoresTwo s t a16 (lowByte s.regs.sp) (a16 + 1) (highByte s.regs.sp)
        ∧ KeepsRegs s t [] ∧ KeepsFlags s t ∧ KeepsSp s t ∧ Advances s t 3 20

/-- PUSH rr (R243). AF's low byte is F, whose low nibble is zero. -/
def Obligations.PushPair : Prop :=
  ∀ (s : State) (p : StackPair),
    encode (Forms.push p) = [3#2 ++ (p.code ++ 5#4)]
      ∧ lowByte (s.regs.getStackPair .af) &&& 0x0F = 0
      ∧ ∃ t, exec (Forms.push p) s = .next t ∧ PushesWord s t (s.regs.getStackPair p)
        ∧ KeepsRegs s t [] ∧ KeepsFlags s t ∧ Advances s t 1 16

/-- POP rr (R244): the low byte from SP, the high byte from SP + 1; POP AF keeps the four flag bits
only and is the one instruction here that writes a flag. -/
def Obligations.PopPair : Prop :=
  ∀ (s : State) (p : StackPair),
    encode (Forms.pop p) = [3#2 ++ (p.code ++ 1#4)]
      ∧ ∃ t, exec (Forms.pop p) s = .next t
        ∧ highByte (t.regs.getStackPair p) = memRead s (s.regs.sp + 1)
        ∧ lowByte (t.regs.getStackPair p)
            = (if p = .af then memRead s s.regs.sp &&& 0xF0 else memRead s s.regs.sp)
        ∧ (p ≠ .af → KeepsFlags s t) ∧ t.regs.sp = s.regs.sp + 2 ∧ Advances s t 1 12
        ∧ RegisterOnly s t p.halves

/-! ### 8-bit arithmetic and logic (41_alu8.md) -/

/-- ADD, ADC, SUB, SBC, AND, XOR, OR and CP of a register (R264, R267, R270, R273, R276, R279, R282,
R285), by the recipes of R261 to R263. -/
def Obligations.AluWithRegister : Prop :=
  ∀ (s : State) (op : AluOp) (src : Reg8),
    encode (Forms.aluReg op src) = [2#2 ++ (op.code ++ src.code)]
      ∧ ∃ t, exec (Forms.aluReg op src) s = .next t
        ∧ AluRecipe op s.regs.a (s.reg src) s.regs.flags.c t.regs.a t.regs.flags
        ∧ KeepsSp s t ∧ Advances s t 1 4 ∧ RegisterOnly s t [.a]

/-- ADD, ADC, SUB, SBC, AND, XOR, OR and CP of the byte at HL (R265, R268, R271, R274, R277, R280,
R283, R286), by the recipes of R261 to R263. -/
def Obligations.AluWithMemory : Prop :=
  ∀ (s : State) (op : AluOp),
    encode (Forms.aluHl op) = [2#2 ++ (op.code ++ 6#3)]
      ∧ ∃ t, exec (Forms.aluHl op) s = .next t
        ∧ AluRecipe op s.regs.a (memRead s (s.pair .hl)) s.regs.flags.c t.regs.a t.regs.flags
        ∧ KeepsSp s t ∧ Advances s t 1 8 ∧ RegisterOnly s t [.a]

/-- ADD, ADC, SUB, SBC, AND, XOR, OR and CP of an immediate byte (R266, R269, R272, R275, R278, R281,
R284, R287), by the recipes of R261 to R263. -/
def Obligations.AluWithImmediate : Prop :=
  ∀ (s : State) (op : AluOp) (d8 : Byte),
    encode (Forms.aluImm op d8) = [3#2 ++ (op.code ++ 6#3), d8]
      ∧ ∃ t, exec (Forms.aluImm op d8) s = .next t
        ∧ AluRecipe op s.regs.a d8 s.regs.flags.c t.regs.a t.regs.flags
        ∧ KeepsSp s t ∧ Advances s t 2 8 ∧ RegisterOnly s t [.a]

/-- INC r (R288) and DEC r (R290). -/
def Obligations.IncDecRegister : Prop :=
  ∀ (s : State) (dst : Reg8),
    (encode (Forms.incReg dst) = [0#2 ++ (dst.code ++ 4#3)]
      ∧ ∃ t, exec (Forms.incReg dst) s = .next t ∧ t.reg dst = s.reg dst + 1
        ∧ IncRecipe (s.reg dst) s.regs.flags t.regs.flags ∧ KeepsSp s t ∧ Advances s t 1 4
        ∧ RegisterOnly s t [dst])
    ∧ (encode (Forms.decReg dst) = [0#2 ++ (dst.code ++ 5#3)]
      ∧ ∃ t, exec (Forms.decReg dst) s = .next t ∧ t.reg dst = s.reg dst - 1
        ∧ DecRecipe (s.reg dst) s.regs.flags t.regs.flags ∧ KeepsSp s t ∧ Advances s t 1 4
        ∧ RegisterOnly s t [dst])

/-- INC (HL) (R289) and DEC (HL) (R291): the flags come from the byte read, whatever the write does
at that address. -/
def Obligations.IncDecMemory : Prop :=
  ∀ s : State,
    (encode .incIndHL = [0x34]
      ∧ ∃ t, exec .incIndHL s = .next t
        ∧ StoresByte s t (s.pair .hl) (memRead s (s.pair .hl) + 1)
        ∧ IncRecipe (memRead s (s.pair .hl)) s.regs.flags t.regs.flags
        ∧ KeepsRegs s t [] ∧ KeepsSp s t ∧ Advances s t 1 12)
    ∧ (encode .decIndHL = [0x35]
      ∧ ∃ t, exec .decIndHL s = .next t
        ∧ StoresByte s t (s.pair .hl) (memRead s (s.pair .hl) - 1)
        ∧ DecRecipe (memRead s (s.pair .hl)) s.regs.flags t.regs.flags
        ∧ KeepsRegs s t [] ∧ KeepsSp s t ∧ Advances s t 1 12)

/-- DAA (R292), stage by stage: the first stage adds or subtracts 0x60, the second 0x06, and the
second tests the low nibble of what the first left. -/
def Obligations.DecimalAdjust : Prop :=
  ∀ s : State,
    let a := s.regs.a
    let f := s.regs.flags
    encode .daa = [0x27]
      ∧ ∃ t, exec .daa s = .next t
        ∧ (f.n = false →
            ∃ a1 : Byte,
              ((f.c = true ∨ 0x99 < a.toNat) ∧ a1 = a + 0x60 ∧ t.regs.flags.c = true
                ∨ ¬(f.c = true ∨ 0x99 < a.toNat) ∧ a1 = a ∧ t.regs.flags.c = f.c)
              ∧ ((f.h = true ∨ 9 < a1.toNat % 16) ∧ t.regs.a = a1 + 0x06
                ∨ ¬(f.h = true ∨ 9 < a1.toNat % 16) ∧ t.regs.a = a1))
        ∧ (f.n = true →
            (t.regs.a = a - (if f.c = true then 0x60 else 0) - (if f.h = true then 0x06 else 0))
              ∧ t.regs.flags.c = f.c)
        ∧ (t.regs.flags.z = true ↔ t.regs.a = 0) ∧ t.regs.flags.n = f.n ∧ t.regs.flags.h = false
        ∧ KeepsSp s t ∧ Advances s t 1 4 ∧ RegisterOnly s t [.a]

/-- CPL (R293), SCF (R294) and CCF (R295). -/
def Obligations.ComplementAndCarry : Prop :=
  ∀ s : State,
    let f := s.regs.flags
    (encode .cpl = [0x2F]
      ∧ ∃ t, exec .cpl s = .next t ∧ t.regs.a = ~~~s.regs.a
        ∧ t.regs.flags = ⟨f.z, true, true, f.c⟩ ∧ KeepsSp s t ∧ Advances s t 1 4
        ∧ RegisterOnly s t [.a])
    ∧ (encode .scf = [0x37]
      ∧ ∃ t, exec .scf s = .next t ∧ t.regs.flags = ⟨f.z, false, false, true⟩ ∧ KeepsSp s t
        ∧ Advances s t 1 4 ∧ RegisterOnly s t [])
    ∧ (encode .ccf = [0x3F]
      ∧ ∃ t, exec .ccf s = .next t ∧ t.regs.flags = ⟨f.z, false, false, !f.c⟩ ∧ KeepsSp s t
        ∧ Advances s t 1 4 ∧ RegisterOnly s t [])

/-! ### 16-bit arithmetic (42_alu16.md) -/

/-- ADD HL,rr (R321). -/
def Obligations.AddPairToHl : Prop :=
  ∀ (s : State) (p : Pair),
    let a := (s.pair .hl).toNat
    let b := (s.pair p).toNat
    encode (Forms.addHl p) = [0#2 ++ (p.code ++ 9#4)]
      ∧ ∃ t, exec (Forms.addHl p) s = .next t
        ∧ (t.pair .hl).toNat = (a + b) % 65536
        ∧ t.regs.flags.z = s.regs.flags.z ∧ t.regs.flags.n = false
        ∧ (t.regs.flags.h = true ↔ 0x0FFF < a % 4096 + b % 4096)
        ∧ (t.regs.flags.c = true ↔ 0xFFFF < a + b)
        ∧ KeepsSp s t ∧ Advances s t 1 8 ∧ RegisterOnly s t [.h, .l]

/-- INC rr (R322) and DEC rr (R323). -/
def Obligations.IncDecPair : Prop :=
  ∀ (s : State) (p : Pair),
    (encode (Forms.incPair p) = [0#2 ++ (p.code ++ 3#4)]
      ∧ ∃ t, exec (Forms.incPair p) s = .next t ∧ t.pair p = s.pair p + 1 ∧ KeepsFlags s t
        ∧ (p ≠ .sp → KeepsSp s t) ∧ Advances s t 1 8 ∧ RegisterOnly s t p.halves)
    ∧ (encode (Forms.decPair p) = [0#2 ++ (p.code ++ 11#4)]
      ∧ ∃ t, exec (Forms.decPair p) s = .next t ∧ t.pair p = s.pair p - 1 ∧ KeepsFlags s t
        ∧ (p ≠ .sp → KeepsSp s t) ∧ Advances s t 1 8 ∧ RegisterOnly s t p.halves)

/-- ADD SP,e8 (R324) and LD HL,SP+e8 (R325), by the recipe of R320. -/
def Obligations.StackPointerOffset : Prop :=
  ∀ (s : State) (e8 : Byte),
    (encode (.addSPE8 e8) = [0xE8, e8]
      ∧ ∃ t, exec (.addSPE8 e8) s = .next t
        ∧ SpOffsetRecipe s.regs.sp e8 t.regs.sp t.regs.flags
        ∧ Advances s t 2 16 ∧ RegisterOnly s t [])
    ∧ (encode (.ldHLSPE8 e8) = [0xF8, e8]
      ∧ ∃ t, exec (.ldHLSPE8 e8) s = .next t
        ∧ SpOffsetRecipe s.regs.sp e8 (t.pair .hl) t.regs.flags
        ∧ KeepsSp s t ∧ Advances s t 2 12 ∧ RegisterOnly s t [.h, .l])

/-! ### Rotates, shifts and bits (43_rotate_bit.md) -/

/-- RLCA (R341), RRCA (R342), RLA (R343) and RRA (R344): Z is 0 whatever the result. -/
def Obligations.RotateAccumulator : Prop :=
  ∀ s : State,
    let done (k : RotOp) (t : State) : Prop :=
      ∃ cout, RotRecipe k s.regs.a s.regs.flags.c t.regs.a cout
        ∧ t.regs.flags = ⟨false, false, false, cout⟩ ∧ KeepsSp s t ∧ Advances s t 1 4
        ∧ RegisterOnly s t [.a]
    (encode .rlca = [0x07] ∧ ∃ t, exec .rlca s = .next t ∧ done .rlc t)
    ∧ (encode .rrca = [0x0F] ∧ ∃ t, exec .rrca s = .next t ∧ done .rrc t)
    ∧ (encode .rla = [0x17] ∧ ∃ t, exec .rla s = .next t ∧ done .rl t)
    ∧ (encode .rra = [0x1F] ∧ ∃ t, exec .rra s = .next t ∧ done .rr t)

/-- RLC, RRC, RL, RR, SLA, SRA, SWAP and SRL of a register (R345, R347, R349, R351, R353, R355, R357,
R359), by the function of R340. -/
def Obligations.RotateRegister : Prop :=
  ∀ (s : State) (k : RotOp) (dst : Reg8),
    encode (Forms.rotReg k dst) = [0xCB, 0#2 ++ (k.code ++ dst.code)]
      ∧ ∃ t cout, exec (Forms.rotReg k dst) s = .next t
        ∧ RotRecipe k (s.reg dst) s.regs.flags.c (t.reg dst) cout
        ∧ t.regs.flags = ⟨t.reg dst == 0, false, false, cout⟩ ∧ KeepsSp s t ∧ Advances s t 2 8
        ∧ RegisterOnly s t [dst]

/-- RLC, RRC, RL, RR, SLA, SRA, SWAP and SRL of the byte at HL (R346, R348, R350, R352, R354, R356,
R358, R360), by the function of R340. -/
def Obligations.RotateMemory : Prop :=
  ∀ (s : State) (k : RotOp),
    encode (Forms.rotHl k) = [0xCB, 0#2 ++ (k.code ++ 6#3)]
      ∧ ∃ t res cout, exec (Forms.rotHl k) s = .next t
        ∧ RotRecipe k (memRead s (s.pair .hl)) s.regs.flags.c res cout
        ∧ StoresByte s t (s.pair .hl) res
        ∧ t.regs.flags = ⟨res == 0, false, false, cout⟩ ∧ KeepsRegs s t [] ∧ KeepsSp s t
        ∧ Advances s t 2 16

/-- BIT b,r (R361) and BIT b,(HL) (R362). -/
def Obligations.TestBit : Prop :=
  ∀ (s : State) (b : BitVec 3) (r : Reg8),
    let f := s.regs.flags
    (encode (Forms.bitReg b r) = [0xCB, 1#2 ++ (b ++ r.code)]
      ∧ ∃ t, exec (Forms.bitReg b r) s = .next t
        ∧ t.regs.flags = ⟨!(s.reg r).getLsbD b.toNat, false, true, f.c⟩
        ∧ KeepsSp s t ∧ Advances s t 2 8 ∧ RegisterOnly s t [])
    ∧ (encode (Forms.bitHl b) = [0xCB, 1#2 ++ (b ++ 6#3)]
      ∧ ∃ t, exec (Forms.bitHl b) s = .next t
        ∧ t.regs.flags = ⟨!(memRead s (s.pair .hl)).getLsbD b.toNat, false, true, f.c⟩
        ∧ KeepsSp s t ∧ Advances s t 2 12 ∧ RegisterOnly s t [])

/-- RES b,r (R363) and SET b,r (R365). -/
def Obligations.ResetAndSetRegisterBit : Prop :=
  ∀ (s : State) (b : BitVec 3) (r : Reg8),
    (encode (Forms.resReg b r) = [0xCB, 2#2 ++ (b ++ r.code)]
      ∧ ∃ t, exec (Forms.resReg b r) s = .next t
        ∧ SetsRegister s t r (s.reg r &&& ~~~(1#8 <<< b.toNat)) 2 8)
    ∧ (encode (Forms.setReg b r) = [0xCB, 3#2 ++ (b ++ r.code)]
      ∧ ∃ t, exec (Forms.setReg b r) s = .next t
        ∧ SetsRegister s t r (s.reg r ||| 1#8 <<< b.toNat) 2 8)

/-- RES b,(HL) (R364) and SET b,(HL) (R366): the byte is written whatever the bit was. -/
def Obligations.ResetAndSetMemoryBit : Prop :=
  ∀ (s : State) (b : BitVec 3),
    (encode (Forms.resHl b) = [0xCB, 2#2 ++ (b ++ 6#3)]
      ∧ ∃ t, exec (Forms.resHl b) s = .next t
        ∧ StoresOnly s t (s.pair .hl) (memRead s (s.pair .hl) &&& ~~~(1#8 <<< b.toNat)) 2 16)
    ∧ (encode (Forms.setHl b) = [0xCB, 3#2 ++ (b ++ 6#3)]
      ∧ ∃ t, exec (Forms.setHl b) s = .next t
        ∧ StoresOnly s t (s.pair .hl) (memRead s (s.pair .hl) ||| 1#8 <<< b.toNat) 2 16)

/-! ### Control transfer (44_control.md) -/

/-- JP a16 (R381), JP cc,a16 (R382), JP HL (R383), JR e8 (R384) and JR cc,e8 (R385), both ways of the
conditional ones. -/
def Obligations.JumpInstructions : Prop :=
  ∀ (s : State) (cc : Cond) (a16 : Word) (e8 : Byte),
    (encode (.jpA16 a16) = [0xC3, lowByte a16, highByte a16]
      ∧ ∃ t, exec (.jpA16 a16) s = .next t ∧ Jumps s t a16 16)
    ∧ (encode (Forms.jp cc a16) = [6#3 ++ (cc.code ++ 2#3), lowByte a16, highByte a16]
      ∧ ∃ t, exec (Forms.jp cc a16) s = .next t
        ∧ (CondMet cc s.regs.flags → Jumps s t a16 16)
        ∧ (¬CondMet cc s.regs.flags → Jumps s t (nextPc s 3) 12))
    ∧ (encode .jpHL = [0xE9] ∧ ∃ t, exec .jpHL s = .next t ∧ Jumps s t (s.pair .hl) 4)
    ∧ (encode (.jrE8 e8) = [0x18, e8]
      ∧ ∃ t, exec (.jrE8 e8) s = .next t ∧ Jumps s t (nextPc s 2 + e8.signExtend 16) 12)
    ∧ (encode (Forms.jr cc e8) = [1#3 ++ (cc.code ++ 0#3), e8]
      ∧ ∃ t, exec (Forms.jr cc e8) s = .next t
        ∧ (CondMet cc s.regs.flags → Jumps s t (nextPc s 2 + e8.signExtend 16) 12)
        ∧ (¬CondMet cc s.regs.flags → Jumps s t (nextPc s 2) 8))

/-- CALL a16 (R386), CALL cc,a16 (R387) and RST t (R391): the address of the following instruction is
pushed. -/
def Obligations.CallInstructions : Prop :=
  ∀ (s : State) (cc : Cond) (a16 : Word) (v : BitVec 3),
    (encode (.callA16 a16) = [0xCD, lowByte a16, highByte a16]
      ∧ ∃ t, exec (.callA16 a16) s = .next t ∧ Calls s t a16 24 (nextPc s 3))
    ∧ (encode (Forms.call cc a16) = [6#3 ++ (cc.code ++ 4#3), lowByte a16, highByte a16]
      ∧ ∃ t, exec (Forms.call cc a16) s = .next t
        ∧ (CondMet cc s.regs.flags → Calls s t a16 24 (nextPc s 3))
        ∧ (¬CondMet cc s.regs.flags → Jumps s t (nextPc s 3) 12))
    ∧ (encode (Forms.rst v) = [3#2 ++ (v ++ 7#3)]
      ∧ ∃ t, exec (Forms.rst v) s = .next t
        ∧ Calls s t (BitVec.ofNat 16 (v.toNat * 8)) 16 (nextPc s 1))

/-- RET (R388), RET cc (R389) and RETI (R390): RETI sets IME at once and clears ime_pending. -/
def Obligations.ReturnInstructions : Prop :=
  ∀ (s : State) (cc : Cond),
    (encode .ret = [0xC9] ∧ ∃ t, exec .ret s = .next t ∧ Returns s t 16)
    ∧ (encode (Forms.ret cc) = [6#3 ++ (cc.code ++ 0#3)]
      ∧ ∃ t, exec (Forms.ret cc) s = .next t
        ∧ (CondMet cc s.regs.flags → Returns s t 20)
        ∧ (¬CondMet cc s.regs.flags → Jumps s t (nextPc s 1) 8))
    ∧ (encode .reti = [0xD9]
      ∧ ∃ t, exec .reti s = .next t
        ∧ GoesTo t (wordOf (memRead s (s.regs.sp + 1)) (memRead s s.regs.sp)) 16
        ∧ t.regs.sp = s.regs.sp + 2 ∧ KeepsRegs s t [] ∧ KeepsFlags s t ∧ KeepsMemory s t
        ∧ SameButRegs
            { s with
              latch := { s.latch with ime := true, imePending := false, haltBug := false } } t)

/-! ### System instructions (45_system.md) -/

/-- NOP (R400), DI (R401) and EI (R405): an instruction executed after EI that leaves ime_pending set
ends with IME set. -/
def Obligations.NopDiEi : Prop :=
  ∀ s : State,
    (encode .nop = [0x00]
      ∧ ∃ t, exec .nop s = .next t ∧ SetsLatches s t { s.latch with haltBug := false } 1 4)
    ∧ (encode .di = [0xF3]
      ∧ ∃ t, exec .di s = .next t
        ∧ SetsLatches s t { s.latch with ime := false, imePending := false, haltBug := false } 1 4)
    ∧ (encode .ei = [0xFB]
      ∧ ∃ t, exec .ei s = .next t
        ∧ SetsLatches s t { s.latch with imePending := true, haltBug := false } 1 4
        ∧ ∀ i rest u, decode (fetchBytes t) = .ok (i, rest) → exec i t = .next u →
            u.latch.imePending = true →
            ∃ w, fetchAndExecute t = .next w ∧ w.latch.ime = true ∧ w.latch.imePending = false)

/-- HALT (R402): it halts when IME is 1 or nothing is pending, and otherwise sets the halt-bug latch
where the halt_bug parameter is true. -/
def Obligations.HaltInstruction : Prop :=
  ∀ s : State,
    let pend := s.irq.ie &&& s.irq.ifr &&& 0x1F
    encode .halt = [0x76]
      ∧ ∃ t, exec .halt s = .next t
        ∧ (s.latch.ime = true ∨ pend = 0 →
            SetsLatches s t { s.latch with halted := true, haltBug := false } 1 4)
        ∧ (¬(s.latch.ime = true ∨ pend = 0) →
            SetsLatches s t { s.latch with haltBug := s.params.haltBug } 1 4)

/-- STOP (R404): the speed switch on CGB with KEY1 armed, and the refusal otherwise. -/
def Obligations.StopInstruction : Prop :=
  ∀ (s : State) (ignored : Byte),
    encode (.stop ignored) = [0x10, ignored]
      ∧ (s.params.bootProfile = .cgb → s.key1.getLsbD 0 = true →
          ∃ t, exec (.stop ignored) s = .next t
            ∧ t.latch = { s.latch with ds := !s.latch.ds, haltBug := false }
            ∧ t.key1 = s.key1 &&& 0xFE ∧ KeepsRegs s t [] ∧ KeepsFlags s t ∧ KeepsSp s t
            ∧ (∀ b : Word, b ≠ 0xFF4D → memRead t b = memRead s b) ∧ Advances s t 2 4
            ∧ SameButRegs { s with latch := t.latch, key1 := t.key1 } t)
      ∧ (¬(s.params.bootProfile = .cgb ∧ s.key1.getLsbD 0 = true) →
          exec (.stop ignored) s = .refused .stopUnmodelled)

/-- The undefined opcodes (R407): each of the eleven raises the fatal fault with its opcode byte, in
every state, with no next state; and a machine with that fault never steps. -/
def Obligations.UndefinedOpcodesFault : Prop :=
  Forms.undefinedOpcodes.map (fun p => p.2)
      = [0xD3, 0xDB, 0xDD, 0xE3, 0xE4, 0xEB, 0xEC, 0xED, 0xF4, 0xFC, 0xFD]
    ∧ ∀ p ∈ Forms.undefinedOpcodes, ∀ s : State,
      encode p.1 = [p.2] ∧ exec p.1 s = .fault (.undefinedOpcode p.2)
        ∧ step { s with fault := some (.undefinedOpcode p.2) } = .fault (.undefinedOpcode p.2)

/-- PREFIX CB (R406): the two bytes are one CB instruction, executed in one step: the decoder gives
the CB row of the second byte, and the prefix row with that byte means the same; it completes. That
the table's row PREFIX CB stands for its two bytes is the model's reading (log entry 12). -/
def Obligations.PrefixCb : Prop :=
  ∀ (cbop next : Byte) (s : State),
    decode [0xCB, cbop, next] = .ok (cbInstr cbop, [next])
      ∧ ∃ t, exec (.cbPrefix cbop) s = .next t ∧ exec (cbInstr cbop) s = .next t

/-! ### Encoding and the CPU step (30_encoding.md) -/

/-- Words written out from the maps of R187 and R188, one or more of each family, decode to the
instructions they stand for. A sanity statement. -/
def Obligations.MapWordsDecode : Prop :=
  decode [0x3C, 0, 0] = .ok (.incA, [0, 0]) ∧ decode [0x00, 0, 0] = .ok (.nop, [0, 0])
    ∧ decode [0x76, 0, 0] = .ok (.halt, [0, 0]) ∧ decode [0x5E, 0, 0] = .ok (.ldEIndHL, [0, 0])
    ∧ decode [0x21, 0x34, 0x12] = .ok (.ldHLD16 0x1234, [])
    ∧ decode [0x9C, 0, 0] = .ok (.sbcAH, [0, 0]) ∧ decode [0xFE, 0x3C, 0] = .ok (.cpD8 0x3C, [0])
    ∧ decode [0x29, 0, 0] = .ok (.addHLHL, [0, 0]) ∧ decode [0x17, 0, 0] = .ok (.rla, [0, 0])
    ∧ decode [0xCB, 0x7C, 0] = .ok (.bit7H, [0]) ∧ decode [0xCB, 0x9E, 0] = .ok (.res3IndHL, [0])
    ∧ decode [0xDC, 0x34, 0x12] = .ok (.callCA16 0x1234, [])
    ∧ decode [0x38, 0xFE, 0] = .ok (.jrCE8 0xFE, [0]) ∧ decode [0xEF, 0, 0] = .ok (.rst28, [0, 0])
    ∧ decode [0x10, 0x55, 0] = .ok (.stop 0x55, [0]) ∧ decode [0xED, 0, 0] = .ok (.illegalED, [0, 0])

/-- Decoding undoes encoding, for every well-formed instruction, every value of its operands, and
whatever bytes follow it. -/
def Obligations.DecodeUndoesEncode : Prop :=
  ∀ i : Instr, i.wellFormed = true → ∀ rest : List Byte, decode (encode i ++ rest) = .ok (i, rest)

/-- Decoding is total and drops nothing (R191: decode is a total function): any three bytes are one
well-formed instruction of 1 to 3 bytes followed by the bytes left over, and the instruction's bytes
are its encoding. -/
def Obligations.EncodeUndoesDecode : Prop :=
  ∀ op b1 b2 : Byte, ∃ i rest, decode [op, b1, b2] = .ok (i, rest) ∧ i.wellFormed = true
    ∧ encode i ++ rest = [op, b1, b2] ∧ 1 ≤ i.length ∧ i.length ≤ 3

/-- A step runs the decoded instruction (R190, R191): where no interrupt is dispatched and no halted
quantum spent, `step` is `exec` of the instruction that the byte at PC and the two at the operand
base decode to, on the state at the step's start, no longer halted; then the IME-pending promotion
(R193), then the devices' update by the cycles taken (60_exceptions.md R505). -/
def Obligations.StepRunsDecodedInstruction : Prop :=
  ∀ (s : State) (i : Instr) (rest : List Byte),
    let u := beginStep s
    let ob := s.regs.pc + 1 - (if s.latch.haltBug then 1 else 0)
    let pend := s.irq.ie &&& s.irq.ifr &&& 0x1F
    s.fault = none → s.refused = none → ¬(s.latch.ime = true ∧ pend ≠ 0) →
    ¬(s.latch.halted = true ∧ pend = 0) →
    decode [memRead u s.regs.pc, memRead u ob, memRead u (ob + 1)] = .ok (i, rest) →
    step s =
      mapNext (fun t => advanceDevices t.out.cycles t)
        (mapNext (promoteIme s.latch.imePending)
          (exec i { u with latch := { u.latch with halted := false } }))

/-- The machine step (60_exceptions.md R505) and what ends it (10_state.md R41): a CPU step, then PPU,
DIV, TIMA and the frame counter by its cycle count; no device advances on a fault or a refusal; a
faulted or refused machine never steps; and no step changes the ROM image, the parameters, the
cartridge's header values, the buttons or the two stop fields. -/
def Obligations.MachineStep : Prop :=
  ∀ s : State,
    (∀ f, s.fault = some f → step s = .fault f)
    ∧ (∀ r, s.fault = none → s.refused = some r → step s = .refused r)
    ∧ (∀ t, s.fault = none → s.refused = none → cpuStep (beginStep s) = .next t →
        let n := t.out.cycles
        step s = .next (frameStep n (timaStep n (divStep n (ppuStep n t)))))
    ∧ (∀ f, s.fault = none → s.refused = none → cpuStep (beginStep s) = .fault f →
        step s = .fault f)
    ∧ (∀ r, s.fault = none → s.refused = none → cpuStep (beginStep s) = .refused r →
        step s = .refused r)
    ∧ (∀ t, step s = .next t →
        t.rom = s.rom ∧ t.params = s.params ∧ t.pad.buttons = s.pad.buttons
          ∧ t.fault = s.fault ∧ t.refused = s.refused ∧ t.cart.cartType = s.cart.cartType
          ∧ t.cart.romBanks = s.cart.romBanks ∧ t.cart.ramBanks = s.cart.ramBanks
          ∧ t.cart.ram2K = s.cart.ram2K)

/-- IME-pending promotion (R193): IME becomes 1 after the instruction that follows EI, unless that
instruction cleared the latch; a step that dispatches an interrupt or spends a halted quantum does
not promote. -/
def Obligations.ImePromotion : Prop :=
  ∀ s : State,
    let pend := s.irq.ie &&& s.irq.ifr &&& 0x1F
    (∀ i rest t, decode (fetchBytes s) = .ok (i, rest) → exec i s = .next t →
      fetchAndExecute s = .next
        (if s.latch.imePending = true ∧ t.latch.imePending = true then
          { t with latch := { t.latch with ime := true, imePending := false } }
        else t))
    ∧ (∀ rest, decode (fetchBytes s) = .ok (.ei, rest) → s.latch.imePending = false →
        ∃ t, fetchAndExecute s = .next t ∧ t.latch.ime = s.latch.ime ∧ t.latch.imePending = true)
    ∧ (∀ rest, decode (fetchBytes s) = .ok (.di, rest) →
        ∃ t, fetchAndExecute s = .next t ∧ t.latch.ime = false ∧ t.latch.imePending = false)
    ∧ (s.latch.ime = true → pend ≠ 0 →
        ∃ t, cpuStep s = .next t ∧ t.latch.ime = false ∧ t.latch.imePending = s.latch.imePending)
    ∧ (s.latch.halted = true → pend = 0 →
        ∃ t, cpuStep s = .next t ∧ t.latch = s.latch)

/-! ### Interrupts (60_exceptions.md, 45_system.md) -/

/-- Taking an interrupt (R421 to R425): with IME set and source `k` the lowest set bit of
`IE & IF & 0x1F`, the step clears IME and the halted state, pushes PC less the halt-bug latch through
the dispatcher, clears that one request, goes to 0x40 + 8k and takes 20 cycles. Nothing else
changes: not the other registers, not the flags, not ime_pending. -/
def Obligations.InterruptDispatch : Prop :=
  ∀ (s : State) (k : Nat),
    let pend := s.irq.ie &&& s.irq.ifr &&& 0x1F
    let ret := s.regs.pc - (if s.latch.haltBug then 1 else 0)
    let u := { s with latch := { s.latch with ime := false, halted := false, haltBug := false } }
    k < 5 → s.latch.ime = true → pend.getLsbD k = true → (∀ j, j < k → pend.getLsbD j = false) →
    ∃ pushed t,
      StoresTwo u pushed (s.regs.sp - 1) (highByte ret) (s.regs.sp - 2) (lowByte ret)
        ∧ cpuStep s = .next t
        ∧ GoesTo t (BitVec.ofNat 16 (0x40 + 8 * k)) 20
        ∧ t.regs.sp = s.regs.sp - 2 ∧ KeepsRegs s t [] ∧ KeepsFlags s t
        ∧ SameButRegs
            { pushed with
              irq := { pushed.irq with ifr := pushed.irq.ifr &&& ~~~(1#8 <<< k) } } t
        ∧ ∀ b : Word, b ≠ 0xFF0F → memRead t b = memRead pushed b

/-- The halted state (45_system.md R403): with IME set a pending interrupt is dispatched, which
leaves it; with IME clear a pending interrupt leaves it and the same step executes the instruction at
PC; with none pending the step only takes 4 cycles. -/
def Obligations.HaltedState : Prop :=
  ∀ s : State, s.latch.halted = true →
    let pend := s.irq.ie &&& s.irq.ifr &&& 0x1F
    (s.latch.ime = true → pend ≠ 0 →
        cpuStep s = .next (dispatchInterrupt s)
          ∧ (dispatchInterrupt s).latch.halted = false)
    ∧ (s.latch.ime = false → pend ≠ 0 →
        cpuStep s = fetchAndExecute { s with latch := { s.latch with halted := false } })
    ∧ (pend = 0 → cpuStep s = .next { s with out := { s.out with cycles := 4 } })

/-! ### Memory (20_memory.md) -/

/-- A byte written reads back at its address, wherever the address stores plainly: VRAM, WRAM, echo,
OAM, HRAM, enabled external RAM, IE, and each I/O register that stores its whole byte. -/
def Obligations.WriteThenRead : Prop :=
  ∀ (s : State) (a : Word) (v : Byte), readsBack s a.toNat = true → memRead (memWrite s a v) a = v

/-- A write leaves every address it does not reach as it was. -/
def Obligations.WriteLeavesOthers : Prop :=
  ∀ (s : State) (a b : Word) (v : Byte),
    writeReaches s.cart a.toNat b.toNat = false → memRead (memWrite s a v) b = memRead s b

/-- The echo range is WRAM (R110), the unusable range discards writes, and the PPU's state blocks no
access to VRAM or OAM (R112). That a read of the unusable range is one free value for each step and
address is the model's form of R111's draw (log entry 3). -/
def Obligations.EchoUnusableAndVideoMemory : Prop :=
  ∀ (s : State) (a : Word) (v : Byte) (p : Ppu),
    (0xE000 ≤ a.toNat → a.toNat < 0xFE00 →
      memRead s a = memRead s (a - 0x2000) ∧ memWrite s a v = memWrite s (a - 0x2000) v)
    ∧ (0xFEA0 ≤ a.toNat → a.toNat < 0xFF00 →
      memRead s a = Config.unusableRead s.tick a.toNat ∧ memWrite s a v = s)
    ∧ ((0x8000 ≤ a.toNat ∧ a.toNat < 0xA000) ∨ (0xFE00 ≤ a.toNat ∧ a.toNat < 0xFEA0) →
      memRead { s with ppu := p } a = memRead s a
        ∧ memWrite { s with ppu := p } a v = { memWrite s a v with ppu := p })

/-- The I/O registers whose write has an action (R137), and what every I/O address reads (R138). P1's
action is `writeP1` (R143), LCDC's `writeLcdc` (60_exceptions.md R469), DMA's the copy of R139. That
a write to KEY1 under the CGB profile clears the stored bits 7 to 1, which no read shows, is the
model's choice (log entry 5): R137 gives bit 0. -/
def Obligations.IoRegisters : Prop :=
  ∀ (s : State) (v : Byte),
    memWrite s 0xFF00 v = writeP1 s v
    ∧ memWrite s 0xFF04 v = { s with timer := { s.timer with div := 0, divAcc := 0 } }
    ∧ memWrite s 0xFF05 v = { s with timer := { s.timer with tima := v } }
    ∧ memWrite s 0xFF06 v = { s with timer := { s.timer with tma := v } }
    ∧ memWrite s 0xFF07 v = { s with timer := { s.timer with tac := v } }
    ∧ memWrite s 0xFF0F v = { s with irq := { s.irq with ifr := v } }
    ∧ (∀ a : Word, 0xFF10 ≤ a.toNat → a.toNat ≤ 0xFF3F →
        memWrite s a v =
          { s.setRam a.toNat v with
            out := { s.out with apuWrites := s.out.apuWrites ++ [(a, v)] } })
    ∧ memWrite s 0xFF40 v = writeLcdc s v
    ∧ memWrite s 0xFF41 v = { s with lcd := { s.lcd with statEn := v.extractLsb' 3 4 } }
    ∧ memWrite s 0xFF44 v = s
    ∧ memWrite s 0xFF46 v = oamDma { s with lcd := { s.lcd with dma := v } } v
    ∧ (s.params.bootProfile = .cgb → memWrite s 0xFF4D v = { s with key1 := v &&& 1 })
    ∧ (s.params.bootProfile = .dmg → memWrite s 0xFF4D v = { s with key1 := v })
    ∧ memRead s 0xFF00 = 0xC0 ||| (s.pad.sel.setWidth 8 <<< 4) ||| s.pad.low.setWidth 8
    ∧ memRead s 0xFF04 = s.timer.div
    ∧ memRead s 0xFF41 =
        0x80 ||| (s.lcd.statEn.setWidth 8 <<< 3) ||| (if s.ppu.coinc then 0x04 else 0x00)
          ||| (match s.ppu.mode with
            | .hblank => 0
            | .vblank => 1
            | .oamScan => 2
            | .vramAccess => 3)
    ∧ memRead s 0xFF44 = s.ppu.ly
    ∧ (s.params.bootProfile = .cgb →
        memRead s 0xFF4D = (if s.latch.ds then 0x80 else 0x00) ||| 0x7E ||| (s.key1 &&& 1))
    ∧ (s.params.bootProfile = .dmg → memRead s 0xFF4D = s.key1)
    ∧ [0xFF01, 0xFF02, 0xFF05, 0xFF06, 0xFF07, 0xFF0F, 0xFF40, 0xFF42, 0xFF43, 0xFF45, 0xFF46, 0xFF47,
        0xFF48, 0xFF49, 0xFF4A, 0xFF4B].map (memRead s)
      = [s.serial.sb, s.serial.sc, s.timer.tima, s.timer.tma, s.timer.tac, s.irq.ifr, s.lcd.lcdc,
        s.lcd.scy, s.lcd.scx, s.lcd.lyc, s.lcd.dma, s.lcd.bgp, s.lcd.obp0, s.lcd.obp1, s.lcd.wy,
        s.lcd.wx]
    ∧ ∀ a : Word, 0xFF00 ≤ a.toNat → a.toNat < 0xFF80 →
        (ioRegOf (a.toNat % 0x100) = .audio ∨ ioRegOf (a.toNat % 0x100) = .plain) →
        memRead s a = s.ramByte a.toNat

/-- The joypad register (R143) and its interrupt (R144): the nibble is computed anew only by a write
that changes the select bits, a line is 0 where a selected button is pressed, and a button going from
released to pressed requests source 4. -/
def Obligations.JoypadRegister : Prop :=
  ∀ (s : State) (v : Byte) (after : Buttons),
    let sel := v.extractLsb' 4 2
    let b := s.pad.buttons
    let dpad := !sel.getLsbD 0
    let keys := !sel.getLsbD 1
    (sel = s.pad.sel → memWrite s 0xFF00 v = s)
    ∧ (sel ≠ s.pad.sel →
        ∃ low : BitVec 4,
          memWrite s 0xFF00 v = { s with pad := { s.pad with sel := sel, low := low } }
            ∧ low.getLsbD 0 = !((dpad && b.right) || (keys && b.btnA))
            ∧ low.getLsbD 1 = !((dpad && b.left) || (keys && b.btnB))
            ∧ low.getLsbD 2 = !((dpad && b.up) || (keys && b.select))
            ∧ low.getLsbD 3 = !((dpad && b.down) || (keys && b.start)))
    ∧ setButtons after s =
        { s with
          pad := { s.pad with buttons := after }
          irq :=
            { s.irq with
              ifr :=
                if (!b.right && after.right) || (!b.left && after.left) || (!b.up && after.up)
                    || (!b.down && after.down) || (!b.btnA && after.btnA)
                    || (!b.btnB && after.btnB) || (!b.select && after.select)
                    || (!b.start && after.start)
                then s.irq.ifr ||| 0x10 else s.irq.ifr } }

/-- Switching the LCD off and on (60_exceptions.md R469); while it is off the PPU does not advance;
and the worked example: after 0x91 is written to LCDC, 456 cycles at normal speed bring LY from 0 to
1 and the mode back to OAMScan. -/
def Obligations.LcdSwitch : Prop :=
  ∀ (s : State) (v : Byte),
    let t := memWrite s 0xFF40 v
    let u := { s with lcd := { s.lcd with lcdc := v } }
    (s.lcd.lcdc.getLsbD 7 = true → v.getLsbD 7 = false →
      t = { u with ppu := { s.ppu with ly := 0, dot := 0, mode := .hblank } })
    ∧ (s.lcd.lcdc.getLsbD 7 = false → v.getLsbD 7 = true →
      t =
        { u with
          ppu :=
            { s.ppu with
              ly := 0, dot := 0, winLine := 0, coinc := s.lcd.lyc == 0, mode := .oamScan
              wyTrig := s.lcd.wy == 0 } })
    ∧ (s.lcd.lcdc.getLsbD 7 = v.getLsbD 7 → t = u)
    ∧ (s.lcd.lcdc.getLsbD 7 = false → ∀ n, ppuStep n s = s)
    ∧ (s.lcd.lcdc.getLsbD 7 = false → s.latch.ds = false →
        let w := ppuStep 456 (memWrite s 0xFF40 0x91)
        w.ppu.ly = 1 ∧ w.ppu.mode = .oamScan)

/-- OAM DMA (R139): after a write of v to 0xFF46, OAM byte i is what the dispatcher gives at
256v + i, for each of the 160 bytes and every v; every address outside OAM reads as with the register
alone written, and nothing else changes. -/
def Obligations.OamDma : Prop :=
  ∀ (s : State) (v : Byte),
    let u := { s with lcd := { s.lcd with dma := v } }
    let t := memWrite s 0xFF46 v
    (∀ i, i < 160 →
      memRead t (BitVec.ofNat 16 (0xFE00 + i)) = memRead u (BitVec.ofNat 16 (v.toNat * 256 + i)))
    ∧ (∀ b : Word, regionOf b.toNat ≠ .oam → memRead t b = memRead u b)
    ∧ t = { u with mem := t.mem }

/-- The registers of mapper 1 (R121, R122), mapper 3 (R124) and mapper 5 (R126), mapper 0's lack of
them (R120), and what a read of ROM then gives (R120, R131). A write below 0x8000 changes nothing else.
That a write to mapper 3's clock latch changes nothing with rtc_model = draw too is the model's choice
(log entry 14): R124 says so for shadow. -/
def Obligations.MapperRegisters : Prop :=
  ∀ (s : State) (addr : Word) (v : Byte), addr.toNat < 0x8000 →
    let a := addr.toNat
    let t := memWrite s addr v
    let c := s.cart
    let d := t.cart
    t = { s with cart := d }
    ∧ (c.mapper = .mapper0 → d = c ∧ memRead s addr = s.romByte a)
    ∧ (c.mapper ≠ .mapper0 →
        d.ramEn = (if a < 0x2000 then decide (v.toNat % 16 = 0xA) else c.ramEn)
          ∧ memRead s addr =
              (if a < 0x4000 then s.romByte a else s.romByte (c.romBank * 0x4000 + (a - 0x4000))))
    ∧ (c.mapper = .mapper1 →
        d.bankLo.toNat
            = (if 0x2000 ≤ a ∧ a < 0x4000 then max 1 (v.toNat % 32) else c.bankLo.toNat)
          ∧ d.bankHi.toNat = (if 0x4000 ≤ a ∧ a < 0x6000 then v.toNat % 4 else c.bankHi.toNat)
          ∧ d.bankMode = (if 0x6000 ≤ a then v.getLsbD 0 else c.bankMode)
          ∧ d.romBank
              = (if d.bankMode then d.bankLo.toNat else d.bankHi.toNat * 32 + d.bankLo.toNat)
                % c.romBanks
          ∧ d.ramBank = (if d.bankMode then d.bankHi.toNat % max c.ramBanks 1 else 0)
          ∧ d =
              { c with
                ramEn := d.ramEn, bankLo := d.bankLo, bankHi := d.bankHi, bankMode := d.bankMode
                romBank := d.romBank, ramBank := d.ramBank })
    ∧ (c.mapper = .mapper3 →
        d.romBank
            = (if 0x2000 ≤ a ∧ a < 0x4000 then max 1 (v.toNat % 128) % c.romBanks else c.romBank)
          ∧ d.ramBank = (if 0x4000 ≤ a ∧ a < 0x6000 then v.toNat else c.ramBank)
          ∧ d = { c with ramEn := d.ramEn, romBank := d.romBank, ramBank := d.ramBank })
    ∧ (c.mapper = .mapper5 →
        d.romLo = (if 0x2000 ≤ a ∧ a < 0x3000 then v else c.romLo)
          ∧ d.romHi.toNat = (if 0x3000 ≤ a ∧ a < 0x4000 then v.toNat % 2 else c.romHi.toNat)
          ∧ d.romBank
              = (if 0x2000 ≤ a ∧ a < 0x4000 then
                  (d.romHi.toNat * 256 + d.romLo.toNat) % c.romBanks
                else c.romBank)
          ∧ d.ramBank
              = (if 0x4000 ≤ a ∧ a < 0x6000 then
                  v.toNat % (if c.isRumble then 8 else 16) % max c.ramBanks 1
                else c.ramBank)
          ∧ d.rumble
              = (if (0x4000 ≤ a ∧ a < 0x6000) ∧ c.isRumble then v.getLsbD 3 else c.rumble)
          ∧ d =
              { c with
                ramEn := d.ramEn, romLo := d.romLo, romHi := d.romHi, romBank := d.romBank
                ramBank := d.ramBank, rumble := d.rumble })

/-- Accesses to 0xA000-0xBFFF for each mapper (R120, R123, R125, R127, R128): where RAM is enabled and
present they reach one byte of external RAM, where mapper 3 selects a clock register they reach it,
and elsewhere a read gives 0xFF and a write is discarded. The 2 KiB wrap for mappers 0 and 3 is the
model's reading of R151 (log entry 7). With rtc_model = draw, that a read of a clock register is one
free value for each step and register is the model's form of R125's draw (log entry 14). -/
def Obligations.ExternalRam : Prop :=
  ∀ (s : State) (addr : Word) (v : Byte), 0xA000 ≤ addr.toNat → addr.toNat < 0xC000 →
    let c := s.cart
    let offset (bank : Nat) : Nat :=
      let plain := bank * 0x2000 + (addr.toNat - 0xA000)
      if c.ram2K then plain % 0x800 else plain
    let reaches (bank : Nat) : Prop :=
      memRead s addr = s.ramByte (extKey (offset bank))
        ∧ memWrite s addr v = s.setRam (extKey (offset bank)) v
    let nothing : Prop := memRead s addr = 0xFF ∧ memWrite s addr v = s
    (c.mapper = .mapper0 → if 0 < c.ramBanks then reaches 0 else nothing)
    ∧ (c.mapper = .mapper1 ∨ c.mapper = .mapper5 →
        if c.ramEn = true ∧ 0 < c.ramBanks then reaches c.ramBank else nothing)
    ∧ (c.mapper = .mapper3 →
        if c.ramEn = false then nothing
        else if c.ramBank ≤ 3 ∧ 0 < c.ramBanks then reaches (c.ramBank % c.ramBanks)
        else if 8 ≤ c.ramBank ∧ c.ramBank ≤ 12 then
          (s.params.rtcModel = .shadow → memRead s addr = c.rtc.get (c.ramBank - 8))
            ∧ (s.params.rtcModel = .draw → memRead s addr = Config.rtcRead s.tick (c.ramBank - 8))
            ∧ memWrite s addr v = { s with cart := { c with rtc := c.rtc.put (c.ramBank - 8) v } }
        else nothing)

/-! ### Devices (60_exceptions.md) -/

/-- The devices do not depend on how cycles are batched: two updates of m and n cycles are one of
m + n, for the PPU (R461), DIV (R450) and TIMA (R451). -/
def Obligations.BatchingIndependence : Prop :=
  ∀ (s : State) (m n : Nat),
    ppuStep n (ppuStep m s) = ppuStep (m + n) s
      ∧ divStep n (divStep m s) = divStep (m + n) s
      ∧ timaStep n (timaStep m s) = timaStep (m + n) s

/-- The mode sequence and length of a visible line (R460, whose widths the spec marks as its own
inference), and the requests at its end: from the start
of OAMScan the line is OAMScan for 80, VRAMAccess for 172 and HBlank for 204 cycles times the speed;
then LY is one more, and the next line begins. The requests are exactly these: STAT on entering HBlank
with STAT bit 3 (R465), STAT where the new LY equals LYC with STAT bit 6 (R466), at line 144 VBlank
(R464) and STAT with STAT bit 4 (R465), and on entering OAMScan STAT with STAT bit 5 (R465), where WY
equal to LY is latched too (R462). -/
def Obligations.VisibleLineTiming : Prop :=
  ∀ (s : State) (n : Nat),
    let w := if s.latch.ds then 2 else 1
    let stat (enabled : Bool) : Byte := if enabled then 0x02 else 0x00
    lcdOn s = true → s.ppu.mode = .oamScan → s.ppu.dot = 0 → s.ppu.ly.toNat < 144 →
    (n < 80 * w → (ppuStep n s).ppu.mode = .oamScan ∧ (ppuStep n s).ppu.dot = n)
    ∧ (80 * w ≤ n → n < 252 * w →
        (ppuStep n s).ppu.mode = .vramAccess ∧ (ppuStep n s).ppu.dot = n - 80 * w)
    ∧ (252 * w ≤ n → n < 456 * w →
        (ppuStep n s).ppu.mode = .hblank ∧ (ppuStep n s).ppu.dot = n - 252 * w)
    ∧ (n < 456 * w → (ppuStep n s).ppu.ly = s.ppu.ly)
    ∧ (n < 252 * w → (ppuStep n s).irq = s.irq)
    ∧ (252 * w ≤ n → n < 456 * w →
        (ppuStep n s).irq = { s.irq with ifr := s.irq.ifr ||| stat (s.lcd.statEn.getLsbD 0) })
    ∧ (let t := ppuStep (456 * w) s
      t.ppu.ly = s.ppu.ly + 1 ∧ t.ppu.dot = 0
        ∧ t.ppu.mode = (if s.ppu.ly = 143 then .vblank else .oamScan)
        ∧ t.ppu.coinc = (s.ppu.ly + 1 == s.lcd.lyc)
        ∧ t.ppu.wyTrig
            = (s.ppu.wyTrig || (decide (s.ppu.ly ≠ 143) && s.lcd.wy == s.ppu.ly + 1))
        ∧ t.irq =
          { s.irq with
            ifr :=
              s.irq.ifr ||| stat (s.lcd.statEn.getLsbD 0)
                ||| stat (s.ppu.ly + 1 == s.lcd.lyc && s.lcd.statEn.getLsbD 3)
                ||| (if s.ppu.ly = 143 then 0x01 ||| stat (s.lcd.statEn.getLsbD 1)
                  else stat (s.lcd.statEn.getLsbD 2)) })

/-- The lines of VBlank (R460, whose widths the spec marks as its own inference, R461, R467): each takes
456 cycles times the speed; after line 153 the
window latches are reset, LY is 0 and OAMScan of a new frame begins, where WY equal to 0 is latched
(R462). The requests at a line's end are exactly these: STAT where the new LY equals LYC with STAT bit
6 (R466), and on entering OAMScan STAT with STAT bit 5 (R465). -/
def Obligations.VBlankLineTiming : Prop :=
  ∀ (s : State) (n : Nat),
    let w := if s.latch.ds then 2 else 1
    let stat (enabled : Bool) : Byte := if enabled then 0x02 else 0x00
    lcdOn s = true → s.ppu.mode = .vblank → s.ppu.dot = 0 →
    (n < 456 * w → ppuStep n s = { s with ppu := { s.ppu with dot := n } })
    ∧ (let t := ppuStep (456 * w) s
      t.ppu.dot = 0
        ∧ (s.ppu.ly.toNat < 153 →
            t.ppu.ly = s.ppu.ly + 1 ∧ t.ppu.mode = .vblank
              ∧ t.ppu.coinc = (s.ppu.ly + 1 == s.lcd.lyc)
              ∧ t.irq =
                { s.irq with
                  ifr := s.irq.ifr
                    ||| stat (s.ppu.ly + 1 == s.lcd.lyc && s.lcd.statEn.getLsbD 3) })
        ∧ (153 ≤ s.ppu.ly.toNat →
            t.ppu.ly = 0 ∧ t.ppu.mode = .oamScan ∧ t.ppu.winLine = 0
              ∧ t.ppu.wyTrig = (s.lcd.wy == 0) ∧ t.ppu.coinc = (0 == s.lcd.lyc)
              ∧ t.irq =
                { s.irq with
                  ifr := s.irq.ifr ||| stat (0 == s.lcd.lyc && s.lcd.statEn.getLsbD 3)
                    ||| stat (s.lcd.statEn.getLsbD 2) }))

/-- DIV (R450), TIMA (R451, R452) and frame completion (R506, whose target the spec marks as its own
inference) for a step of n cycles: whole periods
are counted, the remainder is kept, each whole period of TIMA is one tick after another, and TIMA's
overflow reloads TMA and requests source 2 at once. -/
def Obligations.TimersAndFrame : Prop :=
  ∀ (s : State) (n : Nat),
    let period := if s.latch.ds then s.params.divPeriodDs else 256
    let rate := [1024, 16, 64, 256].getD (s.timer.tac.toNat % 4) 0
    let target := 70224 * (if s.latch.ds then 2 else 1)
    (0 < period →
      ∃ k acc, s.timer.divAcc + n = k * period + acc ∧ acc < period
        ∧ divStep n s =
            { s with
              timer := { s.timer with div := s.timer.div + BitVec.ofNat 8 k, divAcc := acc } })
    ∧ (s.timer.tac.getLsbD 2 = true →
        ∃ k acc, s.timer.timaAcc + n = k * rate + acc ∧ acc < rate
          ∧ timaStep n s = timaTicks k { s with timer := { s.timer with timaAcc := acc } })
    ∧ (s.timer.tac.getLsbD 2 = false → timaStep n s = s)
    ∧ timaTicks 0 s = s ∧ (∀ k, timaTicks (k + 1) s = timaTicks k (timaTick s))
    ∧ (s.timer.tima = 0xFF →
        timaTick s =
          { s with
            timer := { s.timer with tima := s.timer.tma }
            irq := { s.irq with ifr := s.irq.ifr ||| 0x04 } })
    ∧ (s.timer.tima ≠ 0xFF →
        timaTick s = { s with timer := { s.timer with tima := s.timer.tima + 1 } })
    ∧ (s.coord.frameAcc + n < target →
        frameStep n s = { s with coord := { s.coord with frameAcc := s.coord.frameAcc + n } })
    ∧ (target ≤ s.coord.frameAcc + n →
        frameStep n s =
          { s with
            coord := { frameAcc := s.coord.frameAcc + n - target, frameReady := true } })

/-- The sprite seen at a column (R476 to R478): the sprites of a line are drawn from the last of the
list sorted by X to the first, so column x shows the first sprite of the sorted list that draws there,
and the background where none does; and the list is sorted by X, ties in OAM order. -/
def Obligations.SpritePriority : Prop :=
  ∀ (s : State) (y x : Nat), x < 160 →
    (lineShades s y)[x]?
        = some (((sortSprites (selectSprites s y)).findSome? (spriteShadeAt s y x)).getD
            (backgroundShade s y x))
      ∧ (sortSprites (selectSprites s y)).Pairwise (fun p q => p.x.toNat ≤ q.x.toNat)
      ∧ (∀ n, (sortSprites (selectSprites s y)).filter (fun p => p.x.toNat == n)
          = (selectSprites s y).filter fun p => p.x.toNat == n)
      ∧ (selectSprites s y).length ≤ 10

/-! ### Reset and the host (10_state.md, 70_reset_and_hazards.md) -/

/-- The state after reset (10_state.md R78, 20_memory.md R152), for both boot profiles, any cartridge
and any image, and every unwritten byte of the memory arrays at its initial_memory draw. -/
def Obligations.ResetState : Prop :=
  ∀ (p : Params) (cartType : Byte) (romBanks ramBanks : Nat) (ram2K : Bool) (rom : Memory),
    let s := State.afterReset p (Cart.afterLoad cartType romBanks ramBanks ram2K) rom
    (p.bootProfile = .dmg →
      s.regs = ⟨0x01, 0x00, 0x13, 0x00, 0xD8, 0x01, 0x4D, ⟨true, false, true, true⟩, 0xFFFE, 0x0100⟩
        ∧ s.regs.flags.toByte = 0xB0)
    ∧ (p.bootProfile = .cgb →
      s.regs = ⟨0x11, 0x00, 0x00, 0xFF, 0x56, 0x00, 0x0D, ⟨true, false, false, false⟩, 0xFFFE, 0x0100⟩
        ∧ s.regs.flags.toByte = 0x80)
    ∧ s.latch = ⟨false, false, false, false, false⟩ ∧ s.fault = none ∧ s.refused = none
    ∧ memRead s 0xFF00 = 0xCF ∧ memRead s 0xFF01 = 0x00 ∧ memRead s 0xFF02 = 0x7E
    ∧ memRead s 0xFF04 = 0xAB ∧ s.timer.divAcc = 0 ∧ s.timer.timaAcc = 0
    ∧ memRead s 0xFF05 = 0x00 ∧ memRead s 0xFF06 = 0x00 ∧ memRead s 0xFF07 = 0xF8
    ∧ memRead s 0xFF0F = 0xE1 ∧ memRead s 0xFFFF = 0x00
    ∧ memRead s 0xFF40 = 0x91 ∧ memRead s 0xFF41 = 0x86 ∧ memRead s 0xFF42 = 0x00
    ∧ memRead s 0xFF43 = 0x00 ∧ memRead s 0xFF44 = 0x00 ∧ memRead s 0xFF45 = 0x00
    ∧ memRead s 0xFF46 = 0xFF ∧ memRead s 0xFF47 = 0xFC ∧ memRead s 0xFF48 = 0xFF
    ∧ memRead s 0xFF49 = 0xFF ∧ memRead s 0xFF4A = 0x00 ∧ memRead s 0xFF4B = 0x00
    ∧ s.key1.getLsbD 0 = false ∧ s.ppu.mode = .oamScan ∧ s.ppu.dot = 0 ∧ s.ppu.winLine = 0
    ∧ s.ppu.wyTrig = false ∧ s.ppu.frame = List.replicate 144 (List.replicate 160 0)
    ∧ s.coord.frameAcc = 0
    ∧ s.cart.romBank = 1 ∧ s.cart.bankLo = 1 ∧ s.cart.bankHi = 0 ∧ s.cart.romLo = 1
    ∧ s.cart.romHi = 0 ∧ s.cart.ramBank = 0 ∧ s.cart.ramEn = false ∧ s.cart.bankMode = false
    ∧ s.cart.rumble = false ∧ s.cart.rtc = ⟨0, 0, 0, 0, 0⟩
    ∧ ∀ key, s.ramByte key = Config.initialMemory key

/-- The invariant holds at reset. -/
def Obligations.InvariantAtReset : Prop := Inv State.reset

/-- Every step keeps the invariant: the bank indices stay below their counts (20_memory.md R129),
memory keeps its canonical form and lists only the machine's own locations (10_state.md R76), LY stays
below 154 and in VBlank exactly from line 144, `dot` below the mode's width, the frame 144 rows of 160
(10_state.md R71, R72), and the accumulators below their bounds (R70, R75). -/
def Obligations.InvariantKeptByStep : Prop :=
  ∀ s t : State, Inv s → step s = .next t → Inv t

/-- Dump, then load (70_reset_and_hazards.md R541): on a machine with the same cartridge the load
gives back every piece of the dumped state, the stop fields among it, and leaves the arguments of the
machine (its parameters, image and buttons), its outputs and the model's step number; the invariant
rules out states whose bank indices are not reduced. A save state fits exactly where each part has the
length the cartridge's layout needs, and one that does not fit is rejected, which is reported and
changes no state (R542). The parts are the model's form of the bytes, and what a load leaves is its
reading (log entry 19). -/
def Obligations.SaveStateRoundTrip : Prop :=
  ∀ s u : State,
    (Inv s → s.cart.cartType = u.cart.cartType → s.cart.romBanks = u.cart.romBanks →
      s.cart.ramBanks = u.cart.ramBanks → s.cart.ram2K = u.cart.ram2K →
      load (dump s) u =
        ⟨{ s with
            params := u.params, rom := u.rom, out := u.out, tick := u.tick
            pad := { s.pad with buttons := u.pad.buttons } }, none⟩)
    ∧ ∀ d : SaveState,
      (d.fits u = true ↔
        d.lengths = [0x2000, 0x1000, 0x1000, 128, 160, 127,
            if u.cart.ram2K then 0x800 else u.cart.ramBanks * 0x2000]
          ∧ d.ppu.frame.length = 144 ∧ (∀ row ∈ d.ppu.frame, row.length = 160)
          ∧ Memory.wf d.arrays ∧ ∀ p ∈ d.arrays, u.cart.hasKey p.1 = true)
      ∧ (d.fits u = true → load d u = ⟨d.restore u, none⟩)
      ∧ (d.fits u = false → load d u = ⟨u, some .malformedSaveState⟩)
end

