-- ==== Sys2Proof/Laws/State.lean ====
section
/-! SUPPORT. What each named update of State leaves in each field, true by definition. -/

namespace Sys2Proof.Machine

@[simp] theorem State.setRam_regs (s : State) (k : Nat) (v : Byte) :
    (s.setRam k v).regs = s.regs := rfl
@[simp] theorem State.setRam_latch (s : State) (k : Nat) (v : Byte) :
    (s.setRam k v).latch = s.latch := rfl
@[simp] theorem State.setRam_irq (s : State) (k : Nat) (v : Byte) :
    (s.setRam k v).irq = s.irq := rfl
@[simp] theorem State.setRam_lcd (s : State) (k : Nat) (v : Byte) :
    (s.setRam k v).lcd = s.lcd := rfl
@[simp] theorem State.setRam_ppu (s : State) (k : Nat) (v : Byte) :
    (s.setRam k v).ppu = s.ppu := rfl
@[simp] theorem State.setRam_timer (s : State) (k : Nat) (v : Byte) :
    (s.setRam k v).timer = s.timer := rfl
@[simp] theorem State.setRam_pad (s : State) (k : Nat) (v : Byte) :
    (s.setRam k v).pad = s.pad := rfl
@[simp] theorem State.setRam_serial (s : State) (k : Nat) (v : Byte) :
    (s.setRam k v).serial = s.serial := rfl
@[simp] theorem State.setRam_key1 (s : State) (k : Nat) (v : Byte) :
    (s.setRam k v).key1 = s.key1 := rfl
@[simp] theorem State.setRam_cart (s : State) (k : Nat) (v : Byte) :
    (s.setRam k v).cart = s.cart := rfl
@[simp] theorem State.setRam_coord (s : State) (k : Nat) (v : Byte) :
    (s.setRam k v).coord = s.coord := rfl
@[simp] theorem State.setRam_params (s : State) (k : Nat) (v : Byte) :
    (s.setRam k v).params = s.params := rfl
@[simp] theorem State.setRam_mem (s : State) (k : Nat) (v : Byte) :
    (s.setRam k v).mem = Memory.store s.mem k v := rfl
@[simp] theorem State.setRam_rom (s : State) (k : Nat) (v : Byte) :
    (s.setRam k v).rom = s.rom := rfl
@[simp] theorem State.setRam_out (s : State) (k : Nat) (v : Byte) :
    (s.setRam k v).out = s.out := rfl
@[simp] theorem State.setRam_fault (s : State) (k : Nat) (v : Byte) :
    (s.setRam k v).fault = s.fault := rfl
@[simp] theorem State.setRam_refused (s : State) (k : Nat) (v : Byte) :
    (s.setRam k v).refused = s.refused := rfl
@[simp] theorem State.setRam_tick (s : State) (k : Nat) (v : Byte) :
    (s.setRam k v).tick = s.tick := rfl

@[simp] theorem State.withRegs_regs (s : State) (r : Regs) : (s.withRegs r).regs = r := rfl
@[simp] theorem State.withRegs_latch (s : State) (r : Regs) : (s.withRegs r).latch = s.latch := rfl
@[simp] theorem State.withRegs_irq (s : State) (r : Regs) : (s.withRegs r).irq = s.irq := rfl
@[simp] theorem State.withRegs_lcd (s : State) (r : Regs) : (s.withRegs r).lcd = s.lcd := rfl
@[simp] theorem State.withRegs_ppu (s : State) (r : Regs) : (s.withRegs r).ppu = s.ppu := rfl
@[simp] theorem State.withRegs_timer (s : State) (r : Regs) : (s.withRegs r).timer = s.timer := rfl
@[simp] theorem State.withRegs_pad (s : State) (r : Regs) : (s.withRegs r).pad = s.pad := rfl
@[simp] theorem State.withRegs_serial (s : State) (r : Regs) :
    (s.withRegs r).serial = s.serial := rfl
@[simp] theorem State.withRegs_key1 (s : State) (r : Regs) : (s.withRegs r).key1 = s.key1 := rfl
@[simp] theorem State.withRegs_cart (s : State) (r : Regs) : (s.withRegs r).cart = s.cart := rfl
@[simp] theorem State.withRegs_coord (s : State) (r : Regs) : (s.withRegs r).coord = s.coord := rfl
@[simp] theorem State.withRegs_params (s : State) (r : Regs) :
    (s.withRegs r).params = s.params := rfl
@[simp] theorem State.withRegs_mem (s : State) (r : Regs) : (s.withRegs r).mem = s.mem := rfl
@[simp] theorem State.withRegs_rom (s : State) (r : Regs) : (s.withRegs r).rom = s.rom := rfl
@[simp] theorem State.withRegs_out (s : State) (r : Regs) : (s.withRegs r).out = s.out := rfl
@[simp] theorem State.withRegs_fault (s : State) (r : Regs) : (s.withRegs r).fault = s.fault := rfl
@[simp] theorem State.withRegs_refused (s : State) (r : Regs) :
    (s.withRegs r).refused = s.refused := rfl
@[simp] theorem State.withRegs_tick (s : State) (r : Regs) : (s.withRegs r).tick = s.tick := rfl

@[simp] theorem State.setReg_regs (s : State) (k : Reg8) (v : Byte) :
    (s.setReg k v).regs = s.regs.put k v := rfl
@[simp] theorem State.setReg_latch (s : State) (k : Reg8) (v : Byte) :
    (s.setReg k v).latch = s.latch := rfl
@[simp] theorem State.setReg_irq (s : State) (k : Reg8) (v : Byte) :
    (s.setReg k v).irq = s.irq := rfl
@[simp] theorem State.setReg_lcd (s : State) (k : Reg8) (v : Byte) :
    (s.setReg k v).lcd = s.lcd := rfl
@[simp] theorem State.setReg_ppu (s : State) (k : Reg8) (v : Byte) :
    (s.setReg k v).ppu = s.ppu := rfl
@[simp] theorem State.setReg_timer (s : State) (k : Reg8) (v : Byte) :
    (s.setReg k v).timer = s.timer := rfl
@[simp] theorem State.setReg_pad (s : State) (k : Reg8) (v : Byte) :
    (s.setReg k v).pad = s.pad := rfl
@[simp] theorem State.setReg_serial (s : State) (k : Reg8) (v : Byte) :
    (s.setReg k v).serial = s.serial := rfl
@[simp] theorem State.setReg_key1 (s : State) (k : Reg8) (v : Byte) :
    (s.setReg k v).key1 = s.key1 := rfl
@[simp] theorem State.setReg_cart (s : State) (k : Reg8) (v : Byte) :
    (s.setReg k v).cart = s.cart := rfl
@[simp] theorem State.setReg_coord (s : State) (k : Reg8) (v : Byte) :
    (s.setReg k v).coord = s.coord := rfl
@[simp] theorem State.setReg_params (s : State) (k : Reg8) (v : Byte) :
    (s.setReg k v).params = s.params := rfl
@[simp] theorem State.setReg_mem (s : State) (k : Reg8) (v : Byte) :
    (s.setReg k v).mem = s.mem := rfl
@[simp] theorem State.setReg_rom (s : State) (k : Reg8) (v : Byte) :
    (s.setReg k v).rom = s.rom := rfl
@[simp] theorem State.setReg_out (s : State) (k : Reg8) (v : Byte) :
    (s.setReg k v).out = s.out := rfl
@[simp] theorem State.setReg_fault (s : State) (k : Reg8) (v : Byte) :
    (s.setReg k v).fault = s.fault := rfl
@[simp] theorem State.setReg_refused (s : State) (k : Reg8) (v : Byte) :
    (s.setReg k v).refused = s.refused := rfl
@[simp] theorem State.setReg_tick (s : State) (k : Reg8) (v : Byte) :
    (s.setReg k v).tick = s.tick := rfl

@[simp] theorem State.setPair_regs (s : State) (p : Pair) (v : Word) :
    (s.setPair p v).regs = s.regs.putPair p v := rfl
@[simp] theorem State.setPair_latch (s : State) (p : Pair) (v : Word) :
    (s.setPair p v).latch = s.latch := rfl
@[simp] theorem State.setPair_irq (s : State) (p : Pair) (v : Word) :
    (s.setPair p v).irq = s.irq := rfl
@[simp] theorem State.setPair_lcd (s : State) (p : Pair) (v : Word) :
    (s.setPair p v).lcd = s.lcd := rfl
@[simp] theorem State.setPair_ppu (s : State) (p : Pair) (v : Word) :
    (s.setPair p v).ppu = s.ppu := rfl
@[simp] theorem State.setPair_timer (s : State) (p : Pair) (v : Word) :
    (s.setPair p v).timer = s.timer := rfl
@[simp] theorem State.setPair_pad (s : State) (p : Pair) (v : Word) :
    (s.setPair p v).pad = s.pad := rfl
@[simp] theorem State.setPair_serial (s : State) (p : Pair) (v : Word) :
    (s.setPair p v).serial = s.serial := rfl
@[simp] theorem State.setPair_key1 (s : State) (p : Pair) (v : Word) :
    (s.setPair p v).key1 = s.key1 := rfl
@[simp] theorem State.setPair_cart (s : State) (p : Pair) (v : Word) :
    (s.setPair p v).cart = s.cart := rfl
@[simp] theorem State.setPair_coord (s : State) (p : Pair) (v : Word) :
    (s.setPair p v).coord = s.coord := rfl
@[simp] theorem State.setPair_params (s : State) (p : Pair) (v : Word) :
    (s.setPair p v).params = s.params := rfl
@[simp] theorem State.setPair_mem (s : State) (p : Pair) (v : Word) :
    (s.setPair p v).mem = s.mem := rfl
@[simp] theorem State.setPair_rom (s : State) (p : Pair) (v : Word) :
    (s.setPair p v).rom = s.rom := rfl
@[simp] theorem State.setPair_out (s : State) (p : Pair) (v : Word) :
    (s.setPair p v).out = s.out := rfl
@[simp] theorem State.setPair_fault (s : State) (p : Pair) (v : Word) :
    (s.setPair p v).fault = s.fault := rfl
@[simp] theorem State.setPair_refused (s : State) (p : Pair) (v : Word) :
    (s.setPair p v).refused = s.refused := rfl
@[simp] theorem State.setPair_tick (s : State) (p : Pair) (v : Word) :
    (s.setPair p v).tick = s.tick := rfl

@[simp] theorem State.setFlags_regs (s : State) (f : Flags) :
    (s.setFlags f).regs = { s.regs with flags := f } := rfl
@[simp] theorem State.setFlags_latch (s : State) (f : Flags) : (s.setFlags f).latch = s.latch := rfl
@[simp] theorem State.setFlags_irq (s : State) (f : Flags) : (s.setFlags f).irq = s.irq := rfl
@[simp] theorem State.setFlags_lcd (s : State) (f : Flags) : (s.setFlags f).lcd = s.lcd := rfl
@[simp] theorem State.setFlags_ppu (s : State) (f : Flags) : (s.setFlags f).ppu = s.ppu := rfl
@[simp] theorem State.setFlags_timer (s : State) (f : Flags) : (s.setFlags f).timer = s.timer := rfl
@[simp] theorem State.setFlags_pad (s : State) (f : Flags) : (s.setFlags f).pad = s.pad := rfl
@[simp] theorem State.setFlags_serial (s : State) (f : Flags) :
    (s.setFlags f).serial = s.serial := rfl
@[simp] theorem State.setFlags_key1 (s : State) (f : Flags) : (s.setFlags f).key1 = s.key1 := rfl
@[simp] theorem State.setFlags_cart (s : State) (f : Flags) : (s.setFlags f).cart = s.cart := rfl
@[simp] theorem State.setFlags_coord (s : State) (f : Flags) : (s.setFlags f).coord = s.coord := rfl
@[simp] theorem State.setFlags_params (s : State) (f : Flags) :
    (s.setFlags f).params = s.params := rfl
@[simp] theorem State.setFlags_mem (s : State) (f : Flags) : (s.setFlags f).mem = s.mem := rfl
@[simp] theorem State.setFlags_rom (s : State) (f : Flags) : (s.setFlags f).rom = s.rom := rfl
@[simp] theorem State.setFlags_out (s : State) (f : Flags) : (s.setFlags f).out = s.out := rfl
@[simp] theorem State.setFlags_fault (s : State) (f : Flags) : (s.setFlags f).fault = s.fault := rfl
@[simp] theorem State.setFlags_refused (s : State) (f : Flags) :
    (s.setFlags f).refused = s.refused := rfl
@[simp] theorem State.setFlags_tick (s : State) (f : Flags) : (s.setFlags f).tick = s.tick := rfl

@[simp] theorem State.setSp_regs (s : State) (v : Word) :
    (s.setSp v).regs = { s.regs with sp := v } := rfl
@[simp] theorem State.setSp_latch (s : State) (v : Word) : (s.setSp v).latch = s.latch := rfl
@[simp] theorem State.setSp_irq (s : State) (v : Word) : (s.setSp v).irq = s.irq := rfl
@[simp] theorem State.setSp_lcd (s : State) (v : Word) : (s.setSp v).lcd = s.lcd := rfl
@[simp] theorem State.setSp_ppu (s : State) (v : Word) : (s.setSp v).ppu = s.ppu := rfl
@[simp] theorem State.setSp_timer (s : State) (v : Word) : (s.setSp v).timer = s.timer := rfl
@[simp] theorem State.setSp_pad (s : State) (v : Word) : (s.setSp v).pad = s.pad := rfl
@[simp] theorem State.setSp_serial (s : State) (v : Word) : (s.setSp v).serial = s.serial := rfl
@[simp] theorem State.setSp_key1 (s : State) (v : Word) : (s.setSp v).key1 = s.key1 := rfl
@[simp] theorem State.setSp_cart (s : State) (v : Word) : (s.setSp v).cart = s.cart := rfl
@[simp] theorem State.setSp_coord (s : State) (v : Word) : (s.setSp v).coord = s.coord := rfl
@[simp] theorem State.setSp_params (s : State) (v : Word) : (s.setSp v).params = s.params := rfl
@[simp] theorem State.setSp_mem (s : State) (v : Word) : (s.setSp v).mem = s.mem := rfl
@[simp] theorem State.setSp_rom (s : State) (v : Word) : (s.setSp v).rom = s.rom := rfl
@[simp] theorem State.setSp_out (s : State) (v : Word) : (s.setSp v).out = s.out := rfl
@[simp] theorem State.setSp_fault (s : State) (v : Word) : (s.setSp v).fault = s.fault := rfl
@[simp] theorem State.setSp_refused (s : State) (v : Word) : (s.setSp v).refused = s.refused := rfl
@[simp] theorem State.setSp_tick (s : State) (v : Word) : (s.setSp v).tick = s.tick := rfl

@[simp] theorem dropTop_regs (s : State) :
    (dropTop s).regs = { s.regs with sp := s.regs.sp + 2 } := rfl
@[simp] theorem dropTop_latch (s : State) : (dropTop s).latch = s.latch := rfl
@[simp] theorem dropTop_irq (s : State) : (dropTop s).irq = s.irq := rfl
@[simp] theorem dropTop_lcd (s : State) : (dropTop s).lcd = s.lcd := rfl
@[simp] theorem dropTop_ppu (s : State) : (dropTop s).ppu = s.ppu := rfl
@[simp] theorem dropTop_timer (s : State) : (dropTop s).timer = s.timer := rfl
@[simp] theorem dropTop_pad (s : State) : (dropTop s).pad = s.pad := rfl
@[simp] theorem dropTop_serial (s : State) : (dropTop s).serial = s.serial := rfl
@[simp] theorem dropTop_key1 (s : State) : (dropTop s).key1 = s.key1 := rfl
@[simp] theorem dropTop_cart (s : State) : (dropTop s).cart = s.cart := rfl
@[simp] theorem dropTop_coord (s : State) : (dropTop s).coord = s.coord := rfl
@[simp] theorem dropTop_params (s : State) : (dropTop s).params = s.params := rfl
@[simp] theorem dropTop_mem (s : State) : (dropTop s).mem = s.mem := rfl
@[simp] theorem dropTop_rom (s : State) : (dropTop s).rom = s.rom := rfl
@[simp] theorem dropTop_out (s : State) : (dropTop s).out = s.out := rfl
@[simp] theorem dropTop_fault (s : State) : (dropTop s).fault = s.fault := rfl
@[simp] theorem dropTop_refused (s : State) : (dropTop s).refused = s.refused := rfl
@[simp] theorem dropTop_tick (s : State) : (dropTop s).tick = s.tick := rfl

@[simp] theorem State.clearHaltBug_regs (s : State) : (s.clearHaltBug).regs = s.regs := rfl
@[simp] theorem State.clearHaltBug_latch (s : State) :
    (s.clearHaltBug).latch = { s.latch with haltBug := false } := rfl
@[simp] theorem State.clearHaltBug_irq (s : State) : (s.clearHaltBug).irq = s.irq := rfl
@[simp] theorem State.clearHaltBug_lcd (s : State) : (s.clearHaltBug).lcd = s.lcd := rfl
@[simp] theorem State.clearHaltBug_ppu (s : State) : (s.clearHaltBug).ppu = s.ppu := rfl
@[simp] theorem State.clearHaltBug_timer (s : State) : (s.clearHaltBug).timer = s.timer := rfl
@[simp] theorem State.clearHaltBug_pad (s : State) : (s.clearHaltBug).pad = s.pad := rfl
@[simp] theorem State.clearHaltBug_serial (s : State) : (s.clearHaltBug).serial = s.serial := rfl
@[simp] theorem State.clearHaltBug_key1 (s : State) : (s.clearHaltBug).key1 = s.key1 := rfl
@[simp] theorem State.clearHaltBug_cart (s : State) : (s.clearHaltBug).cart = s.cart := rfl
@[simp] theorem State.clearHaltBug_coord (s : State) : (s.clearHaltBug).coord = s.coord := rfl
@[simp] theorem State.clearHaltBug_params (s : State) : (s.clearHaltBug).params = s.params := rfl
@[simp] theorem State.clearHaltBug_mem (s : State) : (s.clearHaltBug).mem = s.mem := rfl
@[simp] theorem State.clearHaltBug_rom (s : State) : (s.clearHaltBug).rom = s.rom := rfl
@[simp] theorem State.clearHaltBug_out (s : State) : (s.clearHaltBug).out = s.out := rfl
@[simp] theorem State.clearHaltBug_fault (s : State) : (s.clearHaltBug).fault = s.fault := rfl
@[simp] theorem State.clearHaltBug_refused (s : State) : (s.clearHaltBug).refused = s.refused := rfl
@[simp] theorem State.clearHaltBug_tick (s : State) : (s.clearHaltBug).tick = s.tick := rfl

@[simp] theorem State.wake_regs (s : State) : (s.wake).regs = s.regs := rfl
@[simp] theorem State.wake_latch (s : State) :
    (s.wake).latch = { s.latch with halted := false } := rfl
@[simp] theorem State.wake_irq (s : State) : (s.wake).irq = s.irq := rfl
@[simp] theorem State.wake_lcd (s : State) : (s.wake).lcd = s.lcd := rfl
@[simp] theorem State.wake_ppu (s : State) : (s.wake).ppu = s.ppu := rfl
@[simp] theorem State.wake_timer (s : State) : (s.wake).timer = s.timer := rfl
@[simp] theorem State.wake_pad (s : State) : (s.wake).pad = s.pad := rfl
@[simp] theorem State.wake_serial (s : State) : (s.wake).serial = s.serial := rfl
@[simp] theorem State.wake_key1 (s : State) : (s.wake).key1 = s.key1 := rfl
@[simp] theorem State.wake_cart (s : State) : (s.wake).cart = s.cart := rfl
@[simp] theorem State.wake_coord (s : State) : (s.wake).coord = s.coord := rfl
@[simp] theorem State.wake_params (s : State) : (s.wake).params = s.params := rfl
@[simp] theorem State.wake_mem (s : State) : (s.wake).mem = s.mem := rfl
@[simp] theorem State.wake_rom (s : State) : (s.wake).rom = s.rom := rfl
@[simp] theorem State.wake_out (s : State) : (s.wake).out = s.out := rfl
@[simp] theorem State.wake_fault (s : State) : (s.wake).fault = s.fault := rfl
@[simp] theorem State.wake_refused (s : State) : (s.wake).refused = s.refused := rfl
@[simp] theorem State.wake_tick (s : State) : (s.wake).tick = s.tick := rfl

@[simp] theorem finish_regs (s : State) (pc : Word) (n : Nat) :
    (finish s pc n).regs = { s.regs with pc := pc } := rfl
@[simp] theorem finish_latch (s : State) (pc : Word) (n : Nat) :
    (finish s pc n).latch = s.latch := rfl
@[simp] theorem finish_irq (s : State) (pc : Word) (n : Nat) : (finish s pc n).irq = s.irq := rfl
@[simp] theorem finish_lcd (s : State) (pc : Word) (n : Nat) : (finish s pc n).lcd = s.lcd := rfl
@[simp] theorem finish_ppu (s : State) (pc : Word) (n : Nat) : (finish s pc n).ppu = s.ppu := rfl
@[simp] theorem finish_timer (s : State) (pc : Word) (n : Nat) :
    (finish s pc n).timer = s.timer := rfl
@[simp] theorem finish_pad (s : State) (pc : Word) (n : Nat) : (finish s pc n).pad = s.pad := rfl
@[simp] theorem finish_serial (s : State) (pc : Word) (n : Nat) :
    (finish s pc n).serial = s.serial := rfl
@[simp] theorem finish_key1 (s : State) (pc : Word) (n : Nat) : (finish s pc n).key1 = s.key1 := rfl
@[simp] theorem finish_cart (s : State) (pc : Word) (n : Nat) : (finish s pc n).cart = s.cart := rfl
@[simp] theorem finish_coord (s : State) (pc : Word) (n : Nat) :
    (finish s pc n).coord = s.coord := rfl
@[simp] theorem finish_params (s : State) (pc : Word) (n : Nat) :
    (finish s pc n).params = s.params := rfl
@[simp] theorem finish_mem (s : State) (pc : Word) (n : Nat) : (finish s pc n).mem = s.mem := rfl
@[simp] theorem finish_rom (s : State) (pc : Word) (n : Nat) : (finish s pc n).rom = s.rom := rfl
@[simp] theorem finish_out (s : State) (pc : Word) (n : Nat) :
    (finish s pc n).out = { s.out with cycles := n } := rfl
@[simp] theorem finish_fault (s : State) (pc : Word) (n : Nat) :
    (finish s pc n).fault = s.fault := rfl
@[simp] theorem finish_refused (s : State) (pc : Word) (n : Nat) :
    (finish s pc n).refused = s.refused := rfl
@[simp] theorem finish_tick (s : State) (pc : Word) (n : Nat) : (finish s pc n).tick = s.tick := rfl

@[simp] theorem State.request_regs (s : State) (b : Byte) : (s.request b).regs = s.regs := rfl
@[simp] theorem State.request_latch (s : State) (b : Byte) : (s.request b).latch = s.latch := rfl
@[simp] theorem State.request_irq (s : State) (b : Byte) :
    (s.request b).irq = { s.irq with ifr := s.irq.ifr ||| b } := rfl
@[simp] theorem State.request_lcd (s : State) (b : Byte) : (s.request b).lcd = s.lcd := rfl
@[simp] theorem State.request_ppu (s : State) (b : Byte) : (s.request b).ppu = s.ppu := rfl
@[simp] theorem State.request_timer (s : State) (b : Byte) : (s.request b).timer = s.timer := rfl
@[simp] theorem State.request_pad (s : State) (b : Byte) : (s.request b).pad = s.pad := rfl
@[simp] theorem State.request_serial (s : State) (b : Byte) : (s.request b).serial = s.serial := rfl
@[simp] theorem State.request_key1 (s : State) (b : Byte) : (s.request b).key1 = s.key1 := rfl
@[simp] theorem State.request_cart (s : State) (b : Byte) : (s.request b).cart = s.cart := rfl
@[simp] theorem State.request_coord (s : State) (b : Byte) : (s.request b).coord = s.coord := rfl
@[simp] theorem State.request_params (s : State) (b : Byte) : (s.request b).params = s.params := rfl
@[simp] theorem State.request_mem (s : State) (b : Byte) : (s.request b).mem = s.mem := rfl
@[simp] theorem State.request_rom (s : State) (b : Byte) : (s.request b).rom = s.rom := rfl
@[simp] theorem State.request_out (s : State) (b : Byte) : (s.request b).out = s.out := rfl
@[simp] theorem State.request_fault (s : State) (b : Byte) : (s.request b).fault = s.fault := rfl
@[simp] theorem State.request_refused (s : State) (b : Byte) :
    (s.request b).refused = s.refused := rfl
@[simp] theorem State.request_tick (s : State) (b : Byte) : (s.request b).tick = s.tick := rfl

@[simp] theorem clearRequest_regs (s : State) (k : Nat) : (clearRequest s k).regs = s.regs := rfl
@[simp] theorem clearRequest_latch (s : State) (k : Nat) : (clearRequest s k).latch = s.latch := rfl
@[simp] theorem clearRequest_irq (s : State) (k : Nat) :
    (clearRequest s k).irq = { s.irq with ifr := s.irq.ifr &&& ~~~(1#8 <<< k) } := rfl
@[simp] theorem clearRequest_lcd (s : State) (k : Nat) : (clearRequest s k).lcd = s.lcd := rfl
@[simp] theorem clearRequest_ppu (s : State) (k : Nat) : (clearRequest s k).ppu = s.ppu := rfl
@[simp] theorem clearRequest_timer (s : State) (k : Nat) : (clearRequest s k).timer = s.timer := rfl
@[simp] theorem clearRequest_pad (s : State) (k : Nat) : (clearRequest s k).pad = s.pad := rfl
@[simp] theorem clearRequest_serial (s : State) (k : Nat) :
    (clearRequest s k).serial = s.serial := rfl
@[simp] theorem clearRequest_key1 (s : State) (k : Nat) : (clearRequest s k).key1 = s.key1 := rfl
@[simp] theorem clearRequest_cart (s : State) (k : Nat) : (clearRequest s k).cart = s.cart := rfl
@[simp] theorem clearRequest_coord (s : State) (k : Nat) : (clearRequest s k).coord = s.coord := rfl
@[simp] theorem clearRequest_params (s : State) (k : Nat) :
    (clearRequest s k).params = s.params := rfl
@[simp] theorem clearRequest_mem (s : State) (k : Nat) : (clearRequest s k).mem = s.mem := rfl
@[simp] theorem clearRequest_rom (s : State) (k : Nat) : (clearRequest s k).rom = s.rom := rfl
@[simp] theorem clearRequest_out (s : State) (k : Nat) : (clearRequest s k).out = s.out := rfl
@[simp] theorem clearRequest_fault (s : State) (k : Nat) : (clearRequest s k).fault = s.fault := rfl
@[simp] theorem clearRequest_refused (s : State) (k : Nat) :
    (clearRequest s k).refused = s.refused := rfl
@[simp] theorem clearRequest_tick (s : State) (k : Nat) : (clearRequest s k).tick = s.tick := rfl

@[simp] theorem beginStep_regs (s : State) : (beginStep s).regs = s.regs := rfl
@[simp] theorem beginStep_latch (s : State) : (beginStep s).latch = s.latch := rfl
@[simp] theorem beginStep_irq (s : State) : (beginStep s).irq = s.irq := rfl
@[simp] theorem beginStep_lcd (s : State) : (beginStep s).lcd = s.lcd := rfl
@[simp] theorem beginStep_ppu (s : State) : (beginStep s).ppu = s.ppu := rfl
@[simp] theorem beginStep_timer (s : State) : (beginStep s).timer = s.timer := rfl
@[simp] theorem beginStep_pad (s : State) : (beginStep s).pad = s.pad := rfl
@[simp] theorem beginStep_serial (s : State) : (beginStep s).serial = s.serial := rfl
@[simp] theorem beginStep_key1 (s : State) : (beginStep s).key1 = s.key1 := rfl
@[simp] theorem beginStep_cart (s : State) : (beginStep s).cart = s.cart := rfl
@[simp] theorem beginStep_coord (s : State) :
    (beginStep s).coord = { s.coord with frameReady := false } := rfl
@[simp] theorem beginStep_params (s : State) : (beginStep s).params = s.params := rfl
@[simp] theorem beginStep_mem (s : State) : (beginStep s).mem = s.mem := rfl
@[simp] theorem beginStep_rom (s : State) : (beginStep s).rom = s.rom := rfl
@[simp] theorem beginStep_out (s : State) :
    (beginStep s).out = { cycles := 0, apuWrites := [] } := rfl
@[simp] theorem beginStep_fault (s : State) : (beginStep s).fault = s.fault := rfl
@[simp] theorem beginStep_refused (s : State) : (beginStep s).refused = s.refused := rfl
@[simp] theorem beginStep_tick (s : State) : (beginStep s).tick = s.tick + 1 := rfl

end Sys2Proof.Machine
end

