-- ==== Sys2Proof/Laws/Memory.lean ====
section
/-! SUPPORT. Laws of the cell lists and of the memory operations over them: a read after a write, and that each operation keeps the canonical form. -/

namespace Sys2Proof.Machine

theorem Memory.lookup_store_same (m : Memory) (a : Nat) (v : Byte) :
    Memory.lookup (Memory.store m a v) a = some v := by
  induction m with
  | nil => simp [Memory.store, Memory.lookup]
  | cons p rest ih =>
    obtain ⟨k, w⟩ := p
    simp only [Memory.store]
    split
    · simp [Memory.lookup]
    · split
      · simp [Memory.lookup]
      · simp [Memory.lookup, *]

theorem Memory.lookup_store_other (m : Memory) (a b : Nat) (v : Byte) (h : b ≠ a) :
    Memory.lookup (Memory.store m a v) b = Memory.lookup m b := by
  induction m with
  | nil => simp [Memory.store, Memory.lookup, h]
  | cons p rest ih =>
    obtain ⟨k, w⟩ := p
    simp only [Memory.store]
    split
    · subst a; simp [Memory.lookup, h]
    · split
      · simp only [Memory.lookup, h, if_false]
        split
        · split
          · omega
          · split
            · rfl
            · omega
        · rfl
      · simp [Memory.lookup, ih]

theorem Memory.mem_store {m : Memory} {a : Nat} {v : Byte} {p : Host.Cell}
    (h : p ∈ Memory.store m a v) : p = (a, v) ∨ p ∈ m := by
  induction m with
  | nil => simpa [Memory.store] using h
  | cons q rest ih =>
    obtain ⟨k, w⟩ := q
    simp only [Memory.store] at h
    split at h
    · simp only [List.mem_cons] at h ⊢; tauto
    · split at h
      · simpa using h
      · simp only [List.mem_cons] at h ⊢
        rcases h with h | h
        · exact .inr (.inl h)
        · rcases ih h with h | h
          · exact .inl h
          · exact .inr (.inr h)

theorem Memory.store_wf {m : Memory} (a : Nat) (v : Byte) (h : Memory.wf m) :
    Memory.wf (Memory.store m a v) := by
  induction m with
  | nil => simp [Memory.wf, Memory.store]
  | cons q rest ih =>
    obtain ⟨k, w⟩ := q
    have hk := List.pairwise_cons.mp h
    simp only [Memory.store]
    split
    · subst a; exact List.pairwise_cons.mpr hk
    · split
      · rename_i hlt
        refine List.pairwise_cons.mpr ⟨fun p hp => ?_, h⟩
        rcases List.mem_cons.mp hp with rfl | hp
        · exact hlt
        · exact Nat.lt_trans hlt (hk.1 p hp)
      · refine List.pairwise_cons.mpr ⟨fun p hp => ?_, ih hk.2⟩
        rcases Memory.mem_store hp with rfl | hp
        · simp only; omega
        · exact hk.1 p hp

theorem Memory.mem_drop {m : Memory} {a : Nat} {p : Host.Cell} (h : p ∈ Memory.drop m a) :
    p ∈ m := by
  induction m with
  | nil => simp [Memory.drop] at h
  | cons q rest ih =>
    obtain ⟨k, w⟩ := q
    simp only [Memory.drop] at h
    split at h
    · exact List.mem_cons_of_mem _ h
    · split at h
      · exact h
      · rcases List.mem_cons.mp h with h | h
        · exact h ▸ List.mem_cons_self
        · exact List.mem_cons_of_mem _ (ih h)

theorem Memory.drop_wf {m : Memory} (a : Nat) (h : Memory.wf m) : Memory.wf (Memory.drop m a) := by
  induction m with
  | nil => exact h
  | cons q rest ih =>
    obtain ⟨k, w⟩ := q
    have hk := List.pairwise_cons.mp h
    simp only [Memory.drop]
    split
    · exact hk.2
    · split
      · exact h
      · exact List.pairwise_cons.mpr ⟨fun p hp => hk.1 p (Memory.mem_drop hp), ih hk.2⟩

theorem State.romByte_congr {s t : State} (h : t.rom = s.rom) (k : Nat) :
    t.romByte k = s.romByte k := by simp [State.romByte, h]

theorem State.ramByte_congr {s t : State} (h : t.mem = s.mem) (k : Nat) :
    t.ramByte k = s.ramByte k := by simp [State.ramByte, h]

@[simp] theorem State.ramByte_setRam_same (s : State) (k : Nat) (v : Byte) :
    (s.setRam k v).ramByte k = v := by simp [State.ramByte, Memory.lookup_store_same]

theorem State.ramByte_setRam_other (s : State) (k j : Nat) (v : Byte) (h : j ≠ k) :
    (s.setRam k v).ramByte j = s.ramByte j := by
  simp [State.ramByte, Memory.lookup_store_other _ _ _ _ h]

/-- Two writes to one key: the last stands. -/
theorem Memory.store_store_same (m : Memory) (a : Nat) (v w : Byte) :
    Memory.store (Memory.store m a v) a w = Memory.store m a w := by
  induction m with
  | nil => simp [Memory.store]
  | cons q rest ih =>
    obtain ⟨k, u⟩ := q
    simp only [Memory.store]
    split
    · simp [Memory.store]
    · split
      · simp [Memory.store]
      · simp [Memory.store, *]

/-- The ROM image of `construct` is in canonical form. -/
theorem romCells_keys {l : List Byte} {n : Nat} {p : Host.Cell} (h : p ∈ romCells l n) :
    n ≤ p.1 ∧ p.1 < n + l.length ∧ p.2 ≠ romBlank := by
  induction l generalizing n with
  | nil => simp [romCells] at h
  | cons v rest ih =>
    simp only [romCells] at h
    split at h
    · obtain ⟨h1, h2, h3⟩ := ih h
      exact ⟨by omega, by simp only [List.length_cons]; omega, h3⟩
    · rcases List.mem_cons.mp h with rfl | h
      · exact ⟨Nat.le_refl _, by simp, by assumption⟩
      · obtain ⟨h1, h2, h3⟩ := ih h
        exact ⟨by omega, by simp only [List.length_cons]; omega, h3⟩

theorem romCells_romWf (l : List Byte) (n : Nat) : Memory.romWf (romCells l n) := by
  refine ⟨?_, fun p hp => (romCells_keys hp).2.2⟩
  induction l generalizing n with
  | nil => exact List.Pairwise.nil
  | cons v rest ih =>
    simp only [romCells]
    split
    · exact ih _
    · exact List.pairwise_cons.mpr ⟨fun p hp => by have := (romCells_keys hp).1; simp only; omega, ih _⟩

theorem State.reset_mem_wf : Memory.wf State.reset.mem := List.Pairwise.nil

end Sys2Proof.Machine
end

