-- ==== Sys2Proof/Laws/Ops.lean ====
section
/-! SUPPORT. What the shared operations over memory and the CPU can do: what a read depends on, what a write leaves alone, and how an instruction completes. -/

namespace Sys2Proof.Machine

/-- Two states that agree on these fields read alike. -/
theorem memRead_congr {s t : State} (a : Word) (hmem : t.mem = s.mem) (hrom : t.rom = s.rom)
    (hcart : t.cart = s.cart) (hirq : t.irq = s.irq) (hlcd : t.lcd = s.lcd) (hppu : t.ppu = s.ppu)
    (htimer : t.timer = s.timer) (hpad : t.pad = s.pad) (hserial : t.serial = s.serial)
    (hkey : t.key1 = s.key1) (hds : t.latch.ds = s.latch.ds) (hpar : t.params = s.params)
    (htick : t.tick = s.tick) : memRead t a = memRead s a := by
  simp only [memRead, readExt, readIo, statByte, p1Byte, key1Byte, State.ramByte, State.romByte,
    hmem, hrom, hcart, hirq, hlcd, hppu, htimer, hpad, hserial, hkey, hds, hpar, htick]

@[simp] theorem memRead_withRegs (s : State) (r : Regs) (a : Word) :
    memRead (s.withRegs r) a = memRead s a := rfl
@[simp] theorem memRead_setReg (s : State) (k : Reg8) (v : Byte) (a : Word) :
    memRead (s.setReg k v) a = memRead s a := rfl
@[simp] theorem memRead_setPair (s : State) (k : Pair) (v : Word) (a : Word) :
    memRead (s.setPair k v) a = memRead s a := rfl
@[simp] theorem memRead_setFlags (s : State) (f : Flags) (a : Word) :
    memRead (s.setFlags f) a = memRead s a := rfl
@[simp] theorem memRead_setSp (s : State) (v a : Word) : memRead (s.setSp v) a = memRead s a := rfl
@[simp] theorem memRead_dropTop (s : State) (a : Word) : memRead (dropTop s) a = memRead s a := rfl
@[simp] theorem memRead_clearHaltBug (s : State) (a : Word) :
    memRead s.clearHaltBug a = memRead s a := rfl
@[simp] theorem memRead_wake (s : State) (a : Word) : memRead s.wake a = memRead s a := rfl
@[simp] theorem memRead_finish (s : State) (pc : Word) (n : Nat) (a : Word) :
    memRead (finish s pc n) a = memRead s a := rfl

/-! ### The dispatcher, region by region -/

section Regions
variable {a : Word} (s : State) (v : Byte)

theorem memRead_rom (h : regionOf a.toNat = .rom) :
    memRead s a = s.romByte (s.cart.romOffset a.toNat) := by simp only [memRead, h]
theorem memRead_vram (h : regionOf a.toNat = .vram) : memRead s a = s.ramByte a.toNat := by
  simp only [memRead, h]
theorem memRead_external (h : regionOf a.toNat = .external) :
    memRead s a = readExt s a.toNat := by simp only [memRead, h]
theorem memRead_wram (h : regionOf a.toNat = .wram) : memRead s a = s.ramByte a.toNat := by
  simp only [memRead, h]
theorem memRead_echo (h : regionOf a.toNat = .echo) :
    memRead s a = s.ramByte (0xC000 + a.toNat % 0x2000) := by simp only [memRead, h]
theorem memRead_oam (h : regionOf a.toNat = .oam) : memRead s a = s.ramByte a.toNat := by
  simp only [memRead, h]
theorem memRead_unusable (h : regionOf a.toNat = .unusable) :
    memRead s a = Config.unusableRead s.tick a.toNat := by simp only [memRead, h]
theorem memRead_io (h : regionOf a.toNat = .io) : memRead s a = readIo s a.toNat := by
  simp only [memRead, h]
theorem memRead_hram (h : regionOf a.toNat = .hram) : memRead s a = s.ramByte a.toNat := by
  simp only [memRead, h]
theorem memRead_ie (h : regionOf a.toNat = .ie) : memRead s a = s.irq.ie := by
  simp only [memRead, h]

theorem memWrite_rom (h : regionOf a.toNat = .rom) :
    memWrite s a v = { s with cart := s.cart.writeRegister a.toNat v } := by
  simp only [memWrite, h]
theorem memWrite_vram (h : regionOf a.toNat = .vram) : memWrite s a v = s.setRam a.toNat v := by
  simp only [memWrite, h]
theorem memWrite_external (h : regionOf a.toNat = .external) :
    memWrite s a v = writeExt s a.toNat v := by simp only [memWrite, h]
theorem memWrite_wram (h : regionOf a.toNat = .wram) : memWrite s a v = s.setRam a.toNat v := by
  simp only [memWrite, h]
theorem memWrite_echo (h : regionOf a.toNat = .echo) :
    memWrite s a v = s.setRam (0xC000 + a.toNat % 0x2000) v := by simp only [memWrite, h]
theorem memWrite_oam (h : regionOf a.toNat = .oam) : memWrite s a v = s.setRam a.toNat v := by
  simp only [memWrite, h]
theorem memWrite_unusable (h : regionOf a.toNat = .unusable) : memWrite s a v = s := by
  simp only [memWrite, h]
theorem memWrite_io (h : regionOf a.toNat = .io) :
    memWrite s a v = writeIoAction s a.toNat v := by simp only [memWrite, h]
theorem memWrite_hram (h : regionOf a.toNat = .hram) : memWrite s a v = s.setRam a.toNat v := by
  simp only [memWrite, h]
theorem memWrite_ie (h : regionOf a.toNat = .ie) :
    memWrite s a v = { s with irq := { s.irq with ie := v } } := by simp only [memWrite, h]

end Regions

/-! ### OAM DMA -/

/-- OAM DMA changes memory arrays only. -/
theorem oamDma_only_mem (s : State) (v : Byte) : ∃ m, oamDma s v = { s with mem := m } := by
  unfold oamDma
  generalize List.range 160 = l
  induction l generalizing s with
  | nil => exact ⟨s.mem, rfl⟩
  | cons i rest ih =>
    obtain ⟨m, hm⟩ := ih (oamDmaByte v s i)
    exact ⟨m, hm⟩

theorem oamDma_mem_wf {s : State} (v : Byte) (h : Memory.wf s.mem) : Memory.wf (oamDma s v).mem := by
  unfold oamDma
  generalize List.range 160 = l
  induction l generalizing s with
  | nil => exact h
  | cons i rest ih => exact ih (Memory.store_wf _ _ h)

theorem foldl_comm {α β : Type} {f : α → β → α} {g : α → α} (h : ∀ s i, f (g s) i = g (f s i))
    (l : List β) (s : α) : l.foldl f (g s) = g (l.foldl f s) := by
  induction l generalizing s with
  | nil => rfl
  | cons x xs ih => simp only [List.foldl_cons, h, ih]

/-! ### What a write leaves alone -/

/-- Replace what no write of memory reads or changes: the register file, the latches but the speed,
and the cycles recorded. -/
def State.withCpu (s : State) (r : Regs) (l : Latches) (n : Nat) : State :=
  { s with regs := r, latch := { l with ds := s.latch.ds }, out := { s.out with cycles := n } }

theorem writeIo_withCpu (s : State) (r : Regs) (l : Latches) (n a : Nat) (v : Byte) :
    writeIo (s.withCpu r l n) a v = (writeIo s a v).withCpu r l n := by
  unfold writeIo
  cases ioRegOf (a % 0x100)
  case p1 =>
    change writeP1 _ _ = (writeP1 _ _).withCpu r l n
    by_cases h : v.extractLsb' 4 2 = s.pad.sel
    · rw [writeP1, writeP1, if_pos h, if_pos (show _ = (s.withCpu r l n).pad.sel from h)]
    · rw [writeP1, writeP1, if_neg h, if_neg (show ¬_ = (s.withCpu r l n).pad.sel from h)]; rfl
  case lcdc =>
    change writeLcdc _ _ = (writeLcdc _ _).withCpu r l n
    have e : (s.withCpu r l n).lcd = s.lcd := rfl
    unfold writeLcdc
    rw [e]
    split <;> rfl
  case key1 =>
    change writeKey1 _ _ = (writeKey1 _ _).withCpu r l n
    have e : (s.withCpu r l n).params = s.params := rfl
    unfold writeKey1
    rw [e]
    split <;> rfl
  all_goals rfl
theorem oamDma_withCpu (s : State) (r : Regs) (l : Latches) (n : Nat) (v : Byte) :
    oamDma (s.withCpu r l n) v = (oamDma s v).withCpu r l n := by
  unfold oamDma
  generalize List.range 160 = xs
  exact foldl_comm (f := oamDmaByte v) (g := fun t => t.withCpu r l n) (fun _ _ => rfl) xs s

/-- A write does not look at the register file, the latches but the speed, or the cycles recorded,
and leaves them as they are. -/
theorem memWrite_withCpu (s : State) (r : Regs) (l : Latches) (n : Nat) (a : Word) (v : Byte) :
    memWrite (s.withCpu r l n) a v = (memWrite s a v).withCpu r l n := by
  cases h : regionOf a.toNat
  case io =>
    simp only [memWrite_io _ _ h, writeIoAction, writeIo_withCpu, oamDma_withCpu]
    split <;> rfl
  case external =>
    simp only [memWrite_external _ _ h]
    have e : (s.withCpu r l n).cart = s.cart := rfl
    unfold writeExt
    rw [e]
    split <;> rfl
  case rom => simp only [memWrite_rom _ _ h]; rfl
  case vram => simp only [memWrite_vram _ _ h]; rfl
  case wram => simp only [memWrite_wram _ _ h]; rfl
  case echo => simp only [memWrite_echo _ _ h]; rfl
  case oam => simp only [memWrite_oam _ _ h]; rfl
  case unusable => simp only [memWrite_unusable _ _ h]
  case hram => simp only [memWrite_hram _ _ h]; rfl
  case ie => simp only [memWrite_ie _ _ h]; rfl

/-- `t` is `s` but for what a write of memory can change: memory arrays, the cartridge controller, the
devices' registers, and the writes handed to the APU. -/
def WritesOnly (s t : State) : Prop :=
  t = { t with
    regs := s.regs, latch := s.latch, coord := s.coord, params := s.params, rom := s.rom
    out := { t.out with cycles := s.out.cycles }, fault := s.fault, refused := s.refused
    tick := s.tick }

theorem writeIo_writesOnly (s : State) (a : Nat) (v : Byte) : WritesOnly s (writeIo s a v) := by
  unfold writeIo
  cases ioRegOf (a % 0x100)
  case p1 =>
    change WritesOnly s (writeP1 s v)
    by_cases h : v.extractLsb' 4 2 = s.pad.sel
    · rw [writeP1, if_pos h]; rfl
    · rw [writeP1, if_neg h]; rfl
  case lcdc => change WritesOnly s (writeLcdc s v); unfold writeLcdc; split <;> rfl
  case key1 => change WritesOnly s (writeKey1 s v); unfold writeKey1; split <;> rfl
  all_goals rfl

/-- What a write of memory can change. -/
theorem memWrite_writesOnly (s : State) (a : Word) (v : Byte) : WritesOnly s (memWrite s a v) := by
  cases h : regionOf a.toNat
  case io =>
    rw [memWrite_io _ _ h, writeIoAction]
    split
    · obtain ⟨m, hm⟩ := oamDma_only_mem (writeIo s a.toNat v) v
      rw [hm, WritesOnly]
      conv_lhs => rw [writeIo_writesOnly s a.toNat v]
    · exact writeIo_writesOnly s a.toNat v
  case external => rw [memWrite_external _ _ h]; unfold writeExt; split <;> rfl
  case rom => rw [memWrite_rom _ _ h]; rfl
  case vram => rw [memWrite_vram _ _ h]; rfl
  case wram => rw [memWrite_wram _ _ h]; rfl
  case echo => rw [memWrite_echo _ _ h]; rfl
  case oam => rw [memWrite_oam _ _ h]; rfl
  case unusable => rw [memWrite_unusable _ _ h]; rfl
  case hram => rw [memWrite_hram _ _ h]; rfl
  case ie => rw [memWrite_ie _ _ h]; rfl

section
variable (s : State) (a : Word) (v : Byte)
@[simp] theorem memWrite_regs : (memWrite s a v).regs = s.regs :=
  (congrArg State.regs (memWrite_writesOnly s a v)).trans rfl
@[simp] theorem memWrite_latch : (memWrite s a v).latch = s.latch :=
  (congrArg State.latch (memWrite_writesOnly s a v)).trans rfl
@[simp] theorem memWrite_coord : (memWrite s a v).coord = s.coord :=
  (congrArg State.coord (memWrite_writesOnly s a v)).trans rfl
@[simp] theorem memWrite_params : (memWrite s a v).params = s.params :=
  (congrArg State.params (memWrite_writesOnly s a v)).trans rfl
@[simp] theorem memWrite_rom_image : (memWrite s a v).rom = s.rom :=
  (congrArg State.rom (memWrite_writesOnly s a v)).trans rfl
@[simp] theorem memWrite_fault : (memWrite s a v).fault = s.fault :=
  (congrArg State.fault (memWrite_writesOnly s a v)).trans rfl
@[simp] theorem memWrite_refused : (memWrite s a v).refused = s.refused :=
  (congrArg State.refused (memWrite_writesOnly s a v)).trans rfl
@[simp] theorem memWrite_tick : (memWrite s a v).tick = s.tick :=
  (congrArg State.tick (memWrite_writesOnly s a v)).trans rfl
@[simp] theorem memWrite_cycles : (memWrite s a v).out.cycles = s.out.cycles :=
  (congrArg (fun t => t.out.cycles) (memWrite_writesOnly s a v)).trans rfl
end

/-- A write commutes with replacing the register file. -/
theorem memWrite_withRegs (s : State) (r : Regs) (a : Word) (v : Byte) :
    memWrite (s.withRegs r) a v = (memWrite s a v).withRegs r := by
  have h := memWrite_withCpu s r s.latch s.out.cycles a v
  have e : s.withCpu r s.latch s.out.cycles = s.withRegs r := rfl
  rw [e] at h
  rw [h, State.withCpu, State.withRegs, ← memWrite_latch s a v, ← memWrite_cycles s a v]

/-- A write commutes with clearing the halt-bug latch. -/
theorem memWrite_clearHaltBug (s : State) (a : Word) (v : Byte) :
    memWrite s.clearHaltBug a v = (memWrite s a v).clearHaltBug := by
  have h := memWrite_withCpu s s.regs { s.latch with haltBug := false } s.out.cycles a v
  have e : s.withCpu s.regs { s.latch with haltBug := false } s.out.cycles = s.clearHaltBug := rfl
  rw [e] at h
  rw [h, State.withCpu, State.clearHaltBug, ← memWrite_latch s a v, ← memWrite_cycles s a v,
    ← memWrite_regs s a v]

/-- A write commutes with setting PC and the cycles. -/
theorem memWrite_finish (s : State) (pc : Word) (n : Nat) (a : Word) (v : Byte) :
    memWrite (finish s pc n) a v = finish (memWrite s a v) pc n := by
  have h := memWrite_withCpu s { s.regs with pc := pc } s.latch n a v
  have e : s.withCpu { s.regs with pc := pc } s.latch n = finish s pc n := rfl
  rw [e] at h
  rw [h, State.withCpu, finish, ← memWrite_latch s a v, ← memWrite_regs s a v]

/-! ### The canonical form -/

theorem writeIo_mem_wf {s : State} (a : Nat) (v : Byte) (h : Memory.wf s.mem) :
    Memory.wf (writeIo s a v).mem := by
  unfold writeIo
  cases ioRegOf (a % 0x100)
  case p1 => change Memory.wf (writeP1 s v).mem; rw [writeP1]; split <;> exact h
  case lcdc => change Memory.wf (writeLcdc s v).mem; unfold writeLcdc; split <;> exact h
  case key1 => change Memory.wf (writeKey1 s v).mem; unfold writeKey1; split <;> exact h
  case audio => exact Memory.store_wf _ _ h
  case plain => exact Memory.store_wf _ _ h
  all_goals exact h

/-- Every write of memory keeps the canonical form. -/
theorem memWrite_mem_wf {s : State} (a : Word) (v : Byte) (h : Memory.wf s.mem) :
    Memory.wf (memWrite s a v).mem := by
  cases hr : regionOf a.toNat
  case io =>
    rw [memWrite_io _ _ hr, writeIoAction]
    split
    · exact oamDma_mem_wf v (writeIo_mem_wf _ _ h)
    · exact writeIo_mem_wf _ _ h
  case external =>
    rw [memWrite_external _ _ hr]; unfold writeExt
    split
    · exact h
    · exact Memory.store_wf _ _ h
    · exact h
  case rom => rw [memWrite_rom _ _ hr]; exact h
  case vram => rw [memWrite_vram _ _ hr]; exact Memory.store_wf _ _ h
  case wram => rw [memWrite_wram _ _ hr]; exact Memory.store_wf _ _ h
  case echo => rw [memWrite_echo _ _ hr]; exact Memory.store_wf _ _ h
  case oam => rw [memWrite_oam _ _ hr]; exact Memory.store_wf _ _ h
  case unusable => rw [memWrite_unusable _ _ hr]; exact h
  case hram => rw [memWrite_hram _ _ hr]; exact Memory.store_wf _ _ h
  case ie => rw [memWrite_ie _ _ hr]; exact h

theorem memWrite16_mem_wf {s : State} (a v : Word) (h : Memory.wf s.mem) :
    Memory.wf (memWrite16 s a v).mem := memWrite_mem_wf _ _ (memWrite_mem_wf _ _ h)

theorem push16_mem_wf {s : State} (v : Word) (h : Memory.wf s.mem) :
    Memory.wf (push16 s v).mem := memWrite_mem_wf _ _ (memWrite_mem_wf (s := s.setSp _) _ _ h)

/-! ### The stack -/

/-- A push is two writes below SP and a decrement of SP by two. -/
theorem push16_eq (s : State) (v : Word) :
    push16 s v =
      (memWrite (memWrite s (s.regs.sp - 1) (highByte v)) (s.regs.sp - 2) (lowByte v)).setSp
        (s.regs.sp - 2) := by
  have e : s.regs.sp - 1 - 1 = s.regs.sp - 2 := by
    rw [BitVec.sub_sub]; rfl
  have w (t : State) (x : Word) : t.setSp x = t.withRegs { t.regs with sp := x } := rfl
  simp only [push16, w, memWrite_withRegs, State.withRegs_regs, memWrite_regs, e]
  rfl

@[simp] theorem push16_regs (s : State) (v : Word) :
    (push16 s v).regs = { s.regs with sp := s.regs.sp - 2 } := by simp [push16_eq]
@[simp] theorem push16_latch (s : State) (v : Word) : (push16 s v).latch = s.latch := by
  simp [push16_eq]
@[simp] theorem push16_coord (s : State) (v : Word) : (push16 s v).coord = s.coord := by
  simp [push16_eq]
@[simp] theorem push16_params (s : State) (v : Word) : (push16 s v).params = s.params := by
  simp [push16_eq]
@[simp] theorem push16_rom_image (s : State) (v : Word) : (push16 s v).rom = s.rom := by
  simp [push16_eq]
@[simp] theorem push16_tick (s : State) (v : Word) : (push16 s v).tick = s.tick := by
  simp [push16_eq]

/-! ### How an instruction completes -/

theorem complete_eq_next {len cycles : Nat} {f : State → State} {s t : State}
    (h : complete len cycles f s = .next t) :
    t = finish (f s.clearHaltBug) (nextPc s len) cycles := by
  simpa [complete] using h.symm

theorem transfer_eq_next {cycles : Nat} {target : Word} {f : State → State} {s t : State}
    (h : transfer cycles target f s = .next t) : t = finish (f s.clearHaltBug) target cycles := by
  simpa [transfer] using h.symm

/-- After `mapNext f`, a next state is `f` of a next state. -/
theorem mapNext_eq_next {f : State → State} {x : Answer State} {t : State}
    (h : mapNext f x = .next t) : ∃ u, x = .next u ∧ t = f u := by
  cases x with
  | next u => exact ⟨u, rfl, by simpa [mapNext] using h.symm⟩
  | fault r => simp [mapNext] at h
  | refused r => simp [mapNext] at h

end Sys2Proof.Machine
end

