-- ==== Sys2Proof/Laws/Operands.lean ====
section
/-! SUPPORT. Laws of the operand forms: words and their bytes, registers and pairs, the flag byte. -/

namespace Sys2Proof

theorem wordOf_toNat (h l : Byte) : (wordOf h l).toNat = h.toNat * 256 + l.toNat := by
  change (h ++ l : BitVec (8 + 8)).toNat = _
  rw [BitVec.toNat_append, ← Nat.shiftLeft_add_eq_or_of_lt (BitVec.isLt _), Nat.shiftLeft_eq]

theorem highByte_toNat (w : Word) : (highByte w).toNat = w.toNat / 256 := by
  have := w.isLt
  simp only [highByte, BitVec.extractLsb'_toNat, Nat.shiftRight_eq_div_pow]
  omega

theorem lowByte_toNat (w : Word) : (lowByte w).toNat = w.toNat % 256 := by
  simp [lowByte, BitVec.extractLsb'_toNat]

@[simp] theorem highByte_wordOf (h l : Byte) : highByte (wordOf h l) = h := by
  apply BitVec.eq_of_toNat_eq
  have := l.isLt
  rw [highByte_toNat, wordOf_toNat]
  omega

@[simp] theorem lowByte_wordOf (h l : Byte) : lowByte (wordOf h l) = l := by
  apply BitVec.eq_of_toNat_eq
  have := l.isLt
  rw [lowByte_toNat, wordOf_toNat]
  omega

@[simp] theorem wordOf_highByte_lowByte (w : Word) : wordOf (highByte w) (lowByte w) = w := by
  apply BitVec.eq_of_toNat_eq
  rw [wordOf_toNat, highByte_toNat, lowByte_toNat]
  omega

end Sys2Proof

namespace Sys2Proof.Machine

@[simp] theorem Regs.get_put_same (r : Regs) (k : Reg8) (v : Byte) : (r.put k v).get k = v := by
  cases k <;> rfl

theorem Regs.get_put_other (r : Regs) (k j : Reg8) (v : Byte) (h : j ≠ k) :
    (r.put k v).get j = r.get j := by
  cases k <;> cases j <;> first | rfl | exact absurd rfl h

@[simp] theorem Regs.put_flags (r : Regs) (k : Reg8) (v : Byte) : (r.put k v).flags = r.flags := by
  cases k <;> rfl
@[simp] theorem Regs.put_sp (r : Regs) (k : Reg8) (v : Byte) : (r.put k v).sp = r.sp := by
  cases k <;> rfl
@[simp] theorem Regs.put_pc (r : Regs) (k : Reg8) (v : Byte) : (r.put k v).pc = r.pc := by
  cases k <;> rfl

@[simp] theorem Regs.getPair_putPair_same (r : Regs) (p : Pair) (v : Word) :
    (r.putPair p v).getPair p = v := by cases p <;> simp [Regs.putPair, Regs.getPair]

@[simp] theorem Regs.putPair_flags (r : Regs) (p : Pair) (v : Word) :
    (r.putPair p v).flags = r.flags := by cases p <;> rfl
@[simp] theorem Regs.putPair_pc (r : Regs) (p : Pair) (v : Word) :
    (r.putPair p v).pc = r.pc := by cases p <;> rfl

/-- The flag byte and the four flags say the same. -/
@[simp] theorem Flags.ofByte_toByte (f : Flags) : Flags.ofByte f.toByte = f := by
  obtain ⟨z, n, h, c⟩ := f
  cases z <;> cases n <;> cases h <;> cases c <;> rfl

/-- The low nibble of F is zero (10_state.md R32). -/
theorem Flags.toByte_low (f : Flags) : f.toByte.extractLsb' 0 4 = 0 := by
  obtain ⟨z, n, h, c⟩ := f
  cases z <;> cases n <;> cases h <;> cases c <;> rfl

@[simp] theorem State.reg_setReg_same (s : State) (k : Reg8) (v : Byte) : (s.setReg k v).reg k = v :=
  Regs.get_put_same _ _ _

theorem State.reg_setReg_other (s : State) (k j : Reg8) (v : Byte) (h : j ≠ k) :
    (s.setReg k v).reg j = s.reg j := Regs.get_put_other _ _ _ _ h

@[simp] theorem State.reg_setFlags (s : State) (f : Flags) (k : Reg8) :
    (s.setFlags f).reg k = s.reg k := by cases k <;> rfl
@[simp] theorem State.reg_finish (s : State) (pc : Word) (n : Nat) (k : Reg8) :
    (finish s pc n).reg k = s.reg k := by cases k <;> rfl
@[simp] theorem State.reg_clearHaltBug (s : State) (k : Reg8) : s.clearHaltBug.reg k = s.reg k := rfl
@[simp] theorem State.reg_memWrite (s : State) (a : Word) (v : Byte) (k : Reg8) :
    (memWrite s a v).reg k = s.reg k := by simp [State.reg]
@[simp] theorem State.pair_clearHaltBug (s : State) (p : Pair) : s.clearHaltBug.pair p = s.pair p := rfl
@[simp] theorem State.hl_clearHaltBug (s : State) : s.clearHaltBug.hl = s.hl := rfl
@[simp] theorem State.atHl_clearHaltBug (s : State) : s.clearHaltBug.atHl = s.atHl := rfl
@[simp] theorem State.pair_setPair_same (s : State) (p : Pair) (v : Word) :
    (s.setPair p v).pair p = v := Regs.getPair_putPair_same _ _ _

/-- Without the halt bug the next instruction follows at once (30_encoding.md R192). -/
theorem nextPc_noHaltBug (s : State) (n : Nat) (h : s.latch.haltBug = false) :
    nextPc s n = s.regs.pc + BitVec.ofNat 16 n := by simp [nextPc, hbUsed, h]

end Sys2Proof.Machine
end

