-- ==== Sys2Proof/Laws/Effect.lean ====
section
/-! SUPPORT. Everything an instruction can do to the state, said once: `exec_effect` takes a next state of `exec` apart into register updates, latch updates, writes of memory and the speed switch. -/

namespace Sys2Proof.Machine

/-- The states an instruction can reach from `s`: each is got by replacing the register file, by
recording at most 24 cycles, by replacing the latches but the speed, by a write of memory, or by the
speed switch of STOP. -/
inductive Effect (s : State) : State → Prop where
  | start : Effect s s
  | regs {t : State} (r : Regs) : Effect s t → Effect s (t.withRegs r)
  | cycles {t : State} (n : Nat) (hn : n ≤ 24) : Effect s t →
      Effect s { t with out := { t.out with cycles := n } }
  | latch {t : State} (l : Latches) (hl : l.ds = t.latch.ds) : Effect s t →
      Effect s { t with latch := l }
  | write {t : State} (a : Word) (v : Byte) : Effect s t → Effect s (memWrite t a v)
  | speed {t : State} : Effect s t → Effect s (switchSpeed t)

namespace EffectOf

variable {s t : State}

theorem setReg (k : Reg8) (v : Byte) (h : Effect s t) : Effect s (t.setReg k v) := h.regs _
theorem setPair (p : Pair) (v : Word) (h : Effect s t) : Effect s (t.setPair p v) := h.regs _
theorem setFlags (f : Flags) (h : Effect s t) : Effect s (t.setFlags f) := h.regs _
theorem setSp (v : Word) (h : Effect s t) : Effect s (t.setSp v) := h.regs _
theorem dropTop (h : Effect s t) : Effect s (dropTop t) := h.regs _
theorem clearHaltBug (h : Effect s t) : Effect s t.clearHaltBug := h.latch _ rfl
theorem wake (h : Effect s t) : Effect s t.wake := h.latch _ rfl
theorem finish (pc : Word) (n : Nat) (hn : n ≤ 24) (h : Effect s t) : Effect s (finish t pc n) :=
  (h.regs { t.regs with pc := pc }).cycles n hn
theorem push16 (v : Word) (h : Effect s t) : Effect s (push16 t v) :=
  ((((h.regs _).write _ _).regs _).write _ _)
theorem memWrite16 (a v : Word) (h : Effect s t) : Effect s (memWrite16 t a v) :=
  (h.write _ _).write _ _

/-- An instruction that completes: its effect, and the cycles recorded. -/
theorem complete {len n : Nat} {f : State → State} (hf : Effect s (f s.clearHaltBug)) (hn : n ≤ 24)
    (h : complete len n f s = .next t) : Effect s t ∧ t.out.cycles = n := by
  rw [complete_eq_next h]; exact ⟨finish _ _ hn hf, rfl⟩

/-- A taken transfer: its effect, and the cycles recorded. -/
theorem transfer {n : Nat} {target : Word} {f : State → State} (hf : Effect s (f s.clearHaltBug))
    (hn : n ≤ 24) (h : transfer n target f s = .next t) : Effect s t ∧ t.out.cycles = n := by
  rw [transfer_eq_next h]; exact ⟨finish _ _ hn hf, rfl⟩

theorem begun : Effect s s.clearHaltBug := clearHaltBug .start

end EffectOf

/-- What `exec_effect` says of one answer. -/
def AnswerEffect (s : State) (x : Answer State) : Prop :=
  ∀ t, x = .next t → Effect s t ∧ 4 ≤ t.out.cycles ∧ t.out.cycles ≤ 24

section Meanings

open EffectOf

variable {s : State}

theorem complete_effect {len n : Nat} {f : State → State} (hf : Effect s (f s.clearHaltBug))
    (hn : 4 ≤ n ∧ n ≤ 24) : AnswerEffect s (complete len n f s) := fun t h => by
  obtain ⟨h1, h2⟩ := EffectOf.complete hf hn.2 h
  exact ⟨h1, h2 ▸ hn.1, h2 ▸ hn.2⟩

theorem transfer_effect {n : Nat} {target : Word} {f : State → State}
    (hf : Effect s (f s.clearHaltBug)) (hn : 4 ≤ n ∧ n ≤ 24) :
    AnswerEffect s (transfer n target f s) := fun t h => by
  obtain ⟨h1, h2⟩ := EffectOf.transfer hf hn.2 h
  exact ⟨h1, h2 ▸ hn.1, h2 ▸ hn.2⟩

theorem loadReg_effect (dst r : Reg8) : AnswerEffect s (loadReg dst r s) :=
  complete_effect (begun.regs _) (by omega)
theorem loadFrom_effect (len n : Nat) (dst : Reg8) (f : State → Word) (hn : 4 ≤ n ∧ n ≤ 24) :
    AnswerEffect s (loadFrom len n dst f s) := complete_effect (begun.regs _) hn
theorem storeTo_effect (len n : Nat) (f : State → Word) (r : Reg8) (hn : 4 ≤ n ∧ n ≤ 24) :
    AnswerEffect s (storeTo len n f r s) := complete_effect (begun.write _ _) hn
theorem loadImm_effect (dst : Reg8) (v : Byte) : AnswerEffect s (loadImm dst v s) :=
  complete_effect (begun.regs _) (by omega)
theorem storeImm_effect (v : Byte) : AnswerEffect s (storeImm v s) :=
  complete_effect (begun.write _ _) (by omega)
theorem loadStep_effect (w : Word) : AnswerEffect s (loadStep w s) :=
  complete_effect ((begun.regs _).regs _) (by omega)
theorem storeStep_effect (w : Word) : AnswerEffect s (storeStep w s) :=
  complete_effect ((begun.write _ _).regs _) (by omega)
theorem loadPair_effect (p : Pair) (w : Word) : AnswerEffect s (loadPair p w s) :=
  complete_effect (begun.regs _) (by omega)
theorem storeSp_effect (w : Word) : AnswerEffect s (storeSp w s) :=
  complete_effect (EffectOf.memWrite16 _ _ begun) (by omega)
theorem loadSpHl_effect : AnswerEffect s (loadSpHl s) := complete_effect (begun.regs _) (by omega)
theorem pushPair_effect (p : StackPair) : AnswerEffect s (pushPair p s) :=
  complete_effect (EffectOf.push16 _ begun) (by omega)
theorem popPair_effect (p : StackPair) : AnswerEffect s (popPair p s) :=
  complete_effect ((begun.regs _).regs _) (by omega)
theorem aluReg_effect (op : AluOp) (r : Reg8) : AnswerEffect s (aluReg op r s) :=
  complete_effect (begun.regs _) (by omega)
theorem aluAtHl_effect (op : AluOp) : AnswerEffect s (aluAtHl op s) :=
  complete_effect (begun.regs _) (by omega)
theorem aluImm_effect (op : AluOp) (v : Byte) : AnswerEffect s (aluImm op v s) :=
  complete_effect (begun.regs _) (by omega)
theorem incReg_effect (dst : Reg8) : AnswerEffect s (incReg dst s) :=
  complete_effect ((begun.regs _).regs _) (by omega)
theorem decReg_effect (dst : Reg8) : AnswerEffect s (decReg dst s) :=
  complete_effect ((begun.regs _).regs _) (by omega)
theorem incAtHl_effect : AnswerEffect s (incAtHl s) :=
  complete_effect ((begun.write _ _).regs _) (by omega)
theorem decAtHl_effect : AnswerEffect s (decAtHl s) :=
  complete_effect ((begun.write _ _).regs _) (by omega)
theorem decimalAdjust_effect : AnswerEffect s (complete 1 4 decimalAdjust s) :=
  complete_effect (begun.regs _) (by omega)
theorem complementA_effect : AnswerEffect s (complete 1 4 complementA s) :=
  complete_effect (begun.regs _) (by omega)
theorem setCarry_effect : AnswerEffect s (complete 1 4 setCarry s) :=
  complete_effect (begun.regs _) (by omega)
theorem complementCarry_effect : AnswerEffect s (complete 1 4 complementCarry s) :=
  complete_effect (begun.regs _) (by omega)
theorem addHlPair_effect (p : Pair) : AnswerEffect s (addHlPair p s) :=
  complete_effect ((begun.regs _).regs _) (by omega)
theorem addToPair_effect (p : Pair) (w : Word) : AnswerEffect s (addToPair p w s) :=
  complete_effect (begun.regs _) (by omega)
theorem addSpImm_effect (v : Byte) : AnswerEffect s (addSpImm v s) :=
  complete_effect ((begun.regs _).regs _) (by omega)
theorem loadHlSpImm_effect (v : Byte) : AnswerEffect s (loadHlSpImm v s) :=
  complete_effect ((begun.regs _).regs _) (by omega)
theorem rotAcc_effect (k : RotOp) : AnswerEffect s (rotAcc k s) :=
  complete_effect ((begun.regs _).regs _) (by omega)
theorem rotReg_effect (k : RotOp) (r : Reg8) : AnswerEffect s (rotReg k r s) :=
  complete_effect ((begun.regs _).regs _) (by omega)
theorem rotAtHl_effect (k : RotOp) : AnswerEffect s (rotAtHl k s) :=
  complete_effect ((begun.write _ _).regs _) (by omega)
theorem testBitReg_effect (b : Nat) (r : Reg8) : AnswerEffect s (testBitReg b r s) :=
  complete_effect (begun.regs _) (by omega)
theorem testBitAtHl_effect (b : Nat) : AnswerEffect s (testBitAtHl b s) :=
  complete_effect (begun.regs _) (by omega)
theorem clearBitReg_effect (b : Nat) (r : Reg8) : AnswerEffect s (clearBitReg b r s) :=
  complete_effect (begun.regs _) (by omega)
theorem clearBitAtHl_effect (b : Nat) : AnswerEffect s (clearBitAtHl b s) :=
  complete_effect (begun.write _ _) (by omega)
theorem setBitReg_effect (b : Nat) (r : Reg8) : AnswerEffect s (setBitReg b r s) :=
  complete_effect (begun.regs _) (by omega)
theorem setBitAtHl_effect (b : Nat) : AnswerEffect s (setBitAtHl b s) :=
  complete_effect (begun.write _ _) (by omega)
theorem jump_effect (n : Nat) (f : State → Word) (hn : 4 ≤ n ∧ n ≤ 24) :
    AnswerEffect s (jump n f s) := transfer_effect begun hn
theorem jumpIf_effect (cc : Cond) (w : Word) : AnswerEffect s (jumpIf cc w s) := by
  unfold jumpIf
  split
  · exact transfer_effect begun (by omega)
  · exact complete_effect begun (by omega)
theorem jumpRelative_effect (v : Byte) : AnswerEffect s (jumpRelative v s) :=
  transfer_effect begun (by omega)
theorem jumpRelativeIf_effect (cc : Cond) (v : Byte) : AnswerEffect s (jumpRelativeIf cc v s) := by
  unfold jumpRelativeIf
  split
  · exact transfer_effect begun (by omega)
  · exact complete_effect begun (by omega)
theorem call_effect (len n : Nat) (w : Word) (hn : 4 ≤ n ∧ n ≤ 24) :
    AnswerEffect s (call len n w s) := transfer_effect (EffectOf.push16 _ begun) hn
theorem callIf_effect (cc : Cond) (w : Word) : AnswerEffect s (callIf cc w s) := by
  unfold callIf
  split
  · exact call_effect 3 24 w (by omega)
  · exact complete_effect begun (by omega)
theorem ret_effect (n : Nat) (hn : 4 ≤ n ∧ n ≤ 24) : AnswerEffect s (ret n s) :=
  transfer_effect (begun.regs _) hn
theorem retIf_effect (cc : Cond) : AnswerEffect s (retIf cc s) := by
  unfold retIf
  split
  · exact ret_effect 20 (by omega)
  · exact complete_effect begun (by omega)
theorem retEnable_effect : AnswerEffect s (retEnable s) :=
  transfer_effect ((begun.regs _).latch _ rfl) (by omega)
theorem nop_effect : AnswerEffect s (complete 1 4 id s) := complete_effect begun (by omega)
theorem disableInterrupts_effect : AnswerEffect s (complete 1 4 disableInterrupts s) :=
  complete_effect (begun.latch _ rfl) (by omega)
theorem enableAfterNext_effect : AnswerEffect s (complete 1 4 enableAfterNext s) :=
  complete_effect (begun.latch _ rfl) (by omega)
theorem waitForInterrupt_effect : AnswerEffect s (complete 1 4 waitForInterrupt s) := by
  refine complete_effect ?_ (by omega)
  unfold waitForInterrupt
  split
  · exact begun.latch _ rfl
  · split
    · exact begun.latch _ rfl
    · exact begun
theorem stopOrSwitch_effect : AnswerEffect s (stopOrSwitch s) := by
  unfold stopOrSwitch
  split
  · exact complete_effect begun.speed (by omega)
  · intro t h; cases h
theorem raiseFatal_effect (op : Byte) : AnswerEffect s (raiseFatal op s) := by intro t h; cases h
theorem cbOperation_effect (cbop : Byte) : AnswerEffect s (cbOperation cbop s) := by
  unfold cbOperation
  generalize (cbop.extractLsb' 3 3).toNat = y
  generalize (cbop.extractLsb' 6 2).toNat = kind
  cases fieldReg (cbop.extractLsb' 0 3).toNat with
  | none =>
    match kind with
    | 0 => exact rotAtHl_effect _
    | 1 => exact testBitAtHl_effect _
    | 2 => exact clearBitAtHl_effect _
    | _ + 3 => exact setBitAtHl_effect _
  | some r =>
    match kind with
    | 0 => exact rotReg_effect _ _
    | 1 => exact testBitReg_effect _ _
    | 2 => exact clearBitReg_effect _ _
    | _ + 3 => exact setBitReg_effect _ _

end Meanings

theorem cycles4 : 4 ≤ 4 ∧ 4 ≤ 24 := by omega
theorem cycles8 : 4 ≤ 8 ∧ 8 ≤ 24 := by omega
theorem cycles12 : 4 ≤ 12 ∧ 12 ≤ 24 := by omega
theorem cycles16 : 4 ≤ 16 ∧ 16 ≤ 24 := by omega
theorem cycles24 : 4 ≤ 24 ∧ 24 ≤ 24 := by omega

/-- Everything a next state of `exec` can be, and that it took 4 to 24 cycles. -/
theorem exec_effect (i : Instr) (s : State) : AnswerEffect s (exec i s) := by
  cases i with
  | nop => exact nop_effect
  | ldBCD16 d16 => exact loadPair_effect .bc d16
  | ldIndBCA => exact storeTo_effect 1 8 (fun t => t.pair .bc) .a cycles8
  | incBC => exact addToPair_effect .bc (1)
  | incB => exact incReg_effect .b
  | decB => exact decReg_effect .b
  | ldBD8 d8 => exact loadImm_effect .b d8
  | rlca => exact rotAcc_effect .rlc
  | ldIndA16SP a16 => exact storeSp_effect a16
  | addHLBC => exact addHlPair_effect .bc
  | ldAIndBC => exact loadFrom_effect 1 8 .a (fun t => t.pair .bc) cycles8
  | decBC => exact addToPair_effect .bc (-1)
  | incC => exact incReg_effect .c
  | decC => exact decReg_effect .c
  | ldCD8 d8 => exact loadImm_effect .c d8
  | rrca => exact rotAcc_effect .rrc
  | stop _ => exact stopOrSwitch_effect
  | ldDED16 d16 => exact loadPair_effect .de d16
  | ldIndDEA => exact storeTo_effect 1 8 (fun t => t.pair .de) .a cycles8
  | incDE => exact addToPair_effect .de (1)
  | incD => exact incReg_effect .d
  | decD => exact decReg_effect .d
  | ldDD8 d8 => exact loadImm_effect .d d8
  | rla => exact rotAcc_effect .rl
  | jrE8 e8 => exact jumpRelative_effect e8
  | addHLDE => exact addHlPair_effect .de
  | ldAIndDE => exact loadFrom_effect 1 8 .a (fun t => t.pair .de) cycles8
  | decDE => exact addToPair_effect .de (-1)
  | incE => exact incReg_effect .e
  | decE => exact decReg_effect .e
  | ldED8 d8 => exact loadImm_effect .e d8
  | rra => exact rotAcc_effect .rr
  | jrNZE8 e8 => exact jumpRelativeIf_effect .nz e8
  | ldHLD16 d16 => exact loadPair_effect .hl d16
  | ldIndHLIncA => exact storeStep_effect (1)
  | incHL => exact addToPair_effect .hl (1)
  | incH => exact incReg_effect .h
  | decH => exact decReg_effect .h
  | ldHD8 d8 => exact loadImm_effect .h d8
  | daa => exact decimalAdjust_effect
  | jrZE8 e8 => exact jumpRelativeIf_effect .z e8
  | addHLHL => exact addHlPair_effect .hl
  | ldAIndHLInc => exact loadStep_effect (1)
  | decHL => exact addToPair_effect .hl (-1)
  | incL => exact incReg_effect .l
  | decL => exact decReg_effect .l
  | ldLD8 d8 => exact loadImm_effect .l d8
  | cpl => exact complementA_effect
  | jrNCE8 e8 => exact jumpRelativeIf_effect .nc e8
  | ldSPD16 d16 => exact loadPair_effect .sp d16
  | ldIndHLDecA => exact storeStep_effect (-1)
  | incSP => exact addToPair_effect .sp (1)
  | incIndHL => exact incAtHl_effect
  | decIndHL => exact decAtHl_effect
  | ldIndHLD8 d8 => exact storeImm_effect d8
  | scf => exact setCarry_effect
  | jrCE8 e8 => exact jumpRelativeIf_effect .c e8
  | addHLSP => exact addHlPair_effect .sp
  | ldAIndHLDec => exact loadStep_effect (-1)
  | decSP => exact addToPair_effect .sp (-1)
  | incA => exact incReg_effect .a
  | decA => exact decReg_effect .a
  | ldAD8 d8 => exact loadImm_effect .a d8
  | ccf => exact complementCarry_effect
  | ldBB => exact loadReg_effect .b .b
  | ldBC => exact loadReg_effect .b .c
  | ldBD => exact loadReg_effect .b .d
  | ldBE => exact loadReg_effect .b .e
  | ldBH => exact loadReg_effect .b .h
  | ldBL => exact loadReg_effect .b .l
  | ldBIndHL => exact loadFrom_effect 1 8 .b State.hl cycles8
  | ldBA => exact loadReg_effect .b .a
  | ldCB => exact loadReg_effect .c .b
  | ldCC => exact loadReg_effect .c .c
  | ldCD => exact loadReg_effect .c .d
  | ldCE => exact loadReg_effect .c .e
  | ldCH => exact loadReg_effect .c .h
  | ldCL => exact loadReg_effect .c .l
  | ldCIndHL => exact loadFrom_effect 1 8 .c State.hl cycles8
  | ldCA => exact loadReg_effect .c .a
  | ldDB => exact loadReg_effect .d .b
  | ldDC => exact loadReg_effect .d .c
  | ldDD => exact loadReg_effect .d .d
  | ldDE => exact loadReg_effect .d .e
  | ldDH => exact loadReg_effect .d .h
  | ldDL => exact loadReg_effect .d .l
  | ldDIndHL => exact loadFrom_effect 1 8 .d State.hl cycles8
  | ldDA => exact loadReg_effect .d .a
  | ldEB => exact loadReg_effect .e .b
  | ldEC => exact loadReg_effect .e .c
  | ldED => exact loadReg_effect .e .d
  | ldEE => exact loadReg_effect .e .e
  | ldEH => exact loadReg_effect .e .h
  | ldEL => exact loadReg_effect .e .l
  | ldEIndHL => exact loadFrom_effect 1 8 .e State.hl cycles8
  | ldEA => exact loadReg_effect .e .a
  | ldHB => exact loadReg_effect .h .b
  | ldHC => exact loadReg_effect .h .c
  | ldHD => exact loadReg_effect .h .d
  | ldHE => exact loadReg_effect .h .e
  | ldHH => exact loadReg_effect .h .h
  | ldHL => exact loadReg_effect .h .l
  | ldHIndHL => exact loadFrom_effect 1 8 .h State.hl cycles8
  | ldHA => exact loadReg_effect .h .a
  | ldLB => exact loadReg_effect .l .b
  | ldLC => exact loadReg_effect .l .c
  | ldLD => exact loadReg_effect .l .d
  | ldLE => exact loadReg_effect .l .e
  | ldLH => exact loadReg_effect .l .h
  | ldLL => exact loadReg_effect .l .l
  | ldLIndHL => exact loadFrom_effect 1 8 .l State.hl cycles8
  | ldLA => exact loadReg_effect .l .a
  | ldIndHLB => exact storeTo_effect 1 8 State.hl .b cycles8
  | ldIndHLC => exact storeTo_effect 1 8 State.hl .c cycles8
  | ldIndHLD => exact storeTo_effect 1 8 State.hl .d cycles8
  | ldIndHLE => exact storeTo_effect 1 8 State.hl .e cycles8
  | ldIndHLH => exact storeTo_effect 1 8 State.hl .h cycles8
  | ldIndHLL => exact storeTo_effect 1 8 State.hl .l cycles8
  | halt => exact waitForInterrupt_effect
  | ldIndHLA => exact storeTo_effect 1 8 State.hl .a cycles8
  | ldAB => exact loadReg_effect .a .b
  | ldAC => exact loadReg_effect .a .c
  | ldAD => exact loadReg_effect .a .d
  | ldAE => exact loadReg_effect .a .e
  | ldAH => exact loadReg_effect .a .h
  | ldAL => exact loadReg_effect .a .l
  | ldAIndHL => exact loadFrom_effect 1 8 .a State.hl cycles8
  | ldAA => exact loadReg_effect .a .a
  | addAB => exact aluReg_effect .add .b
  | addAC => exact aluReg_effect .add .c
  | addAD => exact aluReg_effect .add .d
  | addAE => exact aluReg_effect .add .e
  | addAH => exact aluReg_effect .add .h
  | addAL => exact aluReg_effect .add .l
  | addAIndHL => exact aluAtHl_effect .add
  | addAA => exact aluReg_effect .add .a
  | adcAB => exact aluReg_effect .adc .b
  | adcAC => exact aluReg_effect .adc .c
  | adcAD => exact aluReg_effect .adc .d
  | adcAE => exact aluReg_effect .adc .e
  | adcAH => exact aluReg_effect .adc .h
  | adcAL => exact aluReg_effect .adc .l
  | adcAIndHL => exact aluAtHl_effect .adc
  | adcAA => exact aluReg_effect .adc .a
  | subB => exact aluReg_effect .sub .b
  | subC => exact aluReg_effect .sub .c
  | subD => exact aluReg_effect .sub .d
  | subE => exact aluReg_effect .sub .e
  | subH => exact aluReg_effect .sub .h
  | subL => exact aluReg_effect .sub .l
  | subIndHL => exact aluAtHl_effect .sub
  | subA => exact aluReg_effect .sub .a
  | sbcAB => exact aluReg_effect .sbc .b
  | sbcAC => exact aluReg_effect .sbc .c
  | sbcAD => exact aluReg_effect .sbc .d
  | sbcAE => exact aluReg_effect .sbc .e
  | sbcAH => exact aluReg_effect .sbc .h
  | sbcAL => exact aluReg_effect .sbc .l
  | sbcAIndHL => exact aluAtHl_effect .sbc
  | sbcAA => exact aluReg_effect .sbc .a
  | andB => exact aluReg_effect .and .b
  | andC => exact aluReg_effect .and .c
  | andD => exact aluReg_effect .and .d
  | andE => exact aluReg_effect .and .e
  | andH => exact aluReg_effect .and .h
  | andL => exact aluReg_effect .and .l
  | andIndHL => exact aluAtHl_effect .and
  | andA => exact aluReg_effect .and .a
  | xorB => exact aluReg_effect .xor .b
  | xorC => exact aluReg_effect .xor .c
  | xorD => exact aluReg_effect .xor .d
  | xorE => exact aluReg_effect .xor .e
  | xorH => exact aluReg_effect .xor .h
  | xorL => exact aluReg_effect .xor .l
  | xorIndHL => exact aluAtHl_effect .xor
  | xorA => exact aluReg_effect .xor .a
  | orB => exact aluReg_effect .or .b
  | orC => exact aluReg_effect .or .c
  | orD => exact aluReg_effect .or .d
  | orE => exact aluReg_effect .or .e
  | orH => exact aluReg_effect .or .h
  | orL => exact aluReg_effect .or .l
  | orIndHL => exact aluAtHl_effect .or
  | orA => exact aluReg_effect .or .a
  | cpB => exact aluReg_effect .cp .b
  | cpC => exact aluReg_effect .cp .c
  | cpD => exact aluReg_effect .cp .d
  | cpE => exact aluReg_effect .cp .e
  | cpH => exact aluReg_effect .cp .h
  | cpL => exact aluReg_effect .cp .l
  | cpIndHL => exact aluAtHl_effect .cp
  | cpA => exact aluReg_effect .cp .a
  | retNZ => exact retIf_effect .nz
  | popBC => exact popPair_effect .bc
  | jpNZA16 a16 => exact jumpIf_effect .nz a16
  | jpA16 a16 => exact jump_effect 16 (fun _ => a16) cycles16
  | callNZA16 a16 => exact callIf_effect .nz a16
  | pushBC => exact pushPair_effect .bc
  | addAD8 d8 => exact aluImm_effect .add d8
  | rst00 => exact call_effect 1 16 0x0000 cycles16
  | retZ => exact retIf_effect .z
  | ret => exact ret_effect 16 cycles16
  | jpZA16 a16 => exact jumpIf_effect .z a16
  | cbPrefix cbop => exact cbOperation_effect cbop
  | callZA16 a16 => exact callIf_effect .z a16
  | callA16 a16 => exact call_effect 3 24 a16 cycles24
  | adcAD8 d8 => exact aluImm_effect .adc d8
  | rst08 => exact call_effect 1 16 0x0008 cycles16
  | retNC => exact retIf_effect .nc
  | popDE => exact popPair_effect .de
  | jpNCA16 a16 => exact jumpIf_effect .nc a16
  | illegalD3 => exact raiseFatal_effect 0xD3
  | callNCA16 a16 => exact callIf_effect .nc a16
  | pushDE => exact pushPair_effect .de
  | subD8 d8 => exact aluImm_effect .sub d8
  | rst10 => exact call_effect 1 16 0x0010 cycles16
  | retC => exact retIf_effect .c
  | reti => exact retEnable_effect
  | jpCA16 a16 => exact jumpIf_effect .c a16
  | illegalDB => exact raiseFatal_effect 0xDB
  | callCA16 a16 => exact callIf_effect .c a16
  | illegalDD => exact raiseFatal_effect 0xDD
  | sbcAD8 d8 => exact aluImm_effect .sbc d8
  | rst18 => exact call_effect 1 16 0x0018 cycles16
  | ldhIndA8A a8 => exact storeTo_effect 2 12 (fun _ => highPage a8) .a cycles12
  | popHL => exact popPair_effect .hl
  | ldhIndCA => exact storeTo_effect 1 8 (fun t => highPage t.regs.c) .a cycles8
  | illegalE3 => exact raiseFatal_effect 0xE3
  | illegalE4 => exact raiseFatal_effect 0xE4
  | pushHL => exact pushPair_effect .hl
  | andD8 d8 => exact aluImm_effect .and d8
  | rst20 => exact call_effect 1 16 0x0020 cycles16
  | addSPE8 e8 => exact addSpImm_effect e8
  | jpHL => exact jump_effect 4 State.hl cycles4
  | ldIndA16A a16 => exact storeTo_effect 3 16 (fun _ => a16) .a cycles16
  | illegalEB => exact raiseFatal_effect 0xEB
  | illegalEC => exact raiseFatal_effect 0xEC
  | illegalED => exact raiseFatal_effect 0xED
  | xorD8 d8 => exact aluImm_effect .xor d8
  | rst28 => exact call_effect 1 16 0x0028 cycles16
  | ldhAIndA8 a8 => exact loadFrom_effect 2 12 .a (fun _ => highPage a8) cycles12
  | popAF => exact popPair_effect .af
  | ldhAIndC => exact loadFrom_effect 1 8 .a (fun t => highPage t.regs.c) cycles8
  | di => exact disableInterrupts_effect
  | illegalF4 => exact raiseFatal_effect 0xF4
  | pushAF => exact pushPair_effect .af
  | orD8 d8 => exact aluImm_effect .or d8
  | rst30 => exact call_effect 1 16 0x0030 cycles16
  | ldHLSPE8 e8 => exact loadHlSpImm_effect e8
  | ldSPHL => exact loadSpHl_effect
  | ldAIndA16 a16 => exact loadFrom_effect 3 16 .a (fun _ => a16) cycles16
  | ei => exact enableAfterNext_effect
  | illegalFC => exact raiseFatal_effect 0xFC
  | illegalFD => exact raiseFatal_effect 0xFD
  | cpD8 d8 => exact aluImm_effect .cp d8
  | rst38 => exact call_effect 1 16 0x0038 cycles16
  | rlcB => exact rotReg_effect .rlc .b
  | rlcC => exact rotReg_effect .rlc .c
  | rlcD => exact rotReg_effect .rlc .d
  | rlcE => exact rotReg_effect .rlc .e
  | rlcH => exact rotReg_effect .rlc .h
  | rlcL => exact rotReg_effect .rlc .l
  | rlcIndHL => exact rotAtHl_effect .rlc
  | rlcA => exact rotReg_effect .rlc .a
  | rrcB => exact rotReg_effect .rrc .b
  | rrcC => exact rotReg_effect .rrc .c
  | rrcD => exact rotReg_effect .rrc .d
  | rrcE => exact rotReg_effect .rrc .e
  | rrcH => exact rotReg_effect .rrc .h
  | rrcL => exact rotReg_effect .rrc .l
  | rrcIndHL => exact rotAtHl_effect .rrc
  | rrcA => exact rotReg_effect .rrc .a
  | rlB => exact rotReg_effect .rl .b
  | rlC => exact rotReg_effect .rl .c
  | rlD => exact rotReg_effect .rl .d
  | rlE => exact rotReg_effect .rl .e
  | rlH => exact rotReg_effect .rl .h
  | rlL => exact rotReg_effect .rl .l
  | rlIndHL => exact rotAtHl_effect .rl
  | rlA => exact rotReg_effect .rl .a
  | rrB => exact rotReg_effect .rr .b
  | rrC => exact rotReg_effect .rr .c
  | rrD => exact rotReg_effect .rr .d
  | rrE => exact rotReg_effect .rr .e
  | rrH => exact rotReg_effect .rr .h
  | rrL => exact rotReg_effect .rr .l
  | rrIndHL => exact rotAtHl_effect .rr
  | rrA => exact rotReg_effect .rr .a
  | slaB => exact rotReg_effect .sla .b
  | slaC => exact rotReg_effect .sla .c
  | slaD => exact rotReg_effect .sla .d
  | slaE => exact rotReg_effect .sla .e
  | slaH => exact rotReg_effect .sla .h
  | slaL => exact rotReg_effect .sla .l
  | slaIndHL => exact rotAtHl_effect .sla
  | slaA => exact rotReg_effect .sla .a
  | sraB => exact rotReg_effect .sra .b
  | sraC => exact rotReg_effect .sra .c
  | sraD => exact rotReg_effect .sra .d
  | sraE => exact rotReg_effect .sra .e
  | sraH => exact rotReg_effect .sra .h
  | sraL => exact rotReg_effect .sra .l
  | sraIndHL => exact rotAtHl_effect .sra
  | sraA => exact rotReg_effect .sra .a
  | swapB => exact rotReg_effect .swap .b
  | swapC => exact rotReg_effect .swap .c
  | swapD => exact rotReg_effect .swap .d
  | swapE => exact rotReg_effect .swap .e
  | swapH => exact rotReg_effect .swap .h
  | swapL => exact rotReg_effect .swap .l
  | swapIndHL => exact rotAtHl_effect .swap
  | swapA => exact rotReg_effect .swap .a
  | srlB => exact rotReg_effect .srl .b
  | srlC => exact rotReg_effect .srl .c
  | srlD => exact rotReg_effect .srl .d
  | srlE => exact rotReg_effect .srl .e
  | srlH => exact rotReg_effect .srl .h
  | srlL => exact rotReg_effect .srl .l
  | srlIndHL => exact rotAtHl_effect .srl
  | srlA => exact rotReg_effect .srl .a
  | bit0B => exact testBitReg_effect 0 .b
  | bit0C => exact testBitReg_effect 0 .c
  | bit0D => exact testBitReg_effect 0 .d
  | bit0E => exact testBitReg_effect 0 .e
  | bit0H => exact testBitReg_effect 0 .h
  | bit0L => exact testBitReg_effect 0 .l
  | bit0IndHL => exact testBitAtHl_effect 0
  | bit0A => exact testBitReg_effect 0 .a
  | bit1B => exact testBitReg_effect 1 .b
  | bit1C => exact testBitReg_effect 1 .c
  | bit1D => exact testBitReg_effect 1 .d
  | bit1E => exact testBitReg_effect 1 .e
  | bit1H => exact testBitReg_effect 1 .h
  | bit1L => exact testBitReg_effect 1 .l
  | bit1IndHL => exact testBitAtHl_effect 1
  | bit1A => exact testBitReg_effect 1 .a
  | bit2B => exact testBitReg_effect 2 .b
  | bit2C => exact testBitReg_effect 2 .c
  | bit2D => exact testBitReg_effect 2 .d
  | bit2E => exact testBitReg_effect 2 .e
  | bit2H => exact testBitReg_effect 2 .h
  | bit2L => exact testBitReg_effect 2 .l
  | bit2IndHL => exact testBitAtHl_effect 2
  | bit2A => exact testBitReg_effect 2 .a
  | bit3B => exact testBitReg_effect 3 .b
  | bit3C => exact testBitReg_effect 3 .c
  | bit3D => exact testBitReg_effect 3 .d
  | bit3E => exact testBitReg_effect 3 .e
  | bit3H => exact testBitReg_effect 3 .h
  | bit3L => exact testBitReg_effect 3 .l
  | bit3IndHL => exact testBitAtHl_effect 3
  | bit3A => exact testBitReg_effect 3 .a
  | bit4B => exact testBitReg_effect 4 .b
  | bit4C => exact testBitReg_effect 4 .c
  | bit4D => exact testBitReg_effect 4 .d
  | bit4E => exact testBitReg_effect 4 .e
  | bit4H => exact testBitReg_effect 4 .h
  | bit4L => exact testBitReg_effect 4 .l
  | bit4IndHL => exact testBitAtHl_effect 4
  | bit4A => exact testBitReg_effect 4 .a
  | bit5B => exact testBitReg_effect 5 .b
  | bit5C => exact testBitReg_effect 5 .c
  | bit5D => exact testBitReg_effect 5 .d
  | bit5E => exact testBitReg_effect 5 .e
  | bit5H => exact testBitReg_effect 5 .h
  | bit5L => exact testBitReg_effect 5 .l
  | bit5IndHL => exact testBitAtHl_effect 5
  | bit5A => exact testBitReg_effect 5 .a
  | bit6B => exact testBitReg_effect 6 .b
  | bit6C => exact testBitReg_effect 6 .c
  | bit6D => exact testBitReg_effect 6 .d
  | bit6E => exact testBitReg_effect 6 .e
  | bit6H => exact testBitReg_effect 6 .h
  | bit6L => exact testBitReg_effect 6 .l
  | bit6IndHL => exact testBitAtHl_effect 6
  | bit6A => exact testBitReg_effect 6 .a
  | bit7B => exact testBitReg_effect 7 .b
  | bit7C => exact testBitReg_effect 7 .c
  | bit7D => exact testBitReg_effect 7 .d
  | bit7E => exact testBitReg_effect 7 .e
  | bit7H => exact testBitReg_effect 7 .h
  | bit7L => exact testBitReg_effect 7 .l
  | bit7IndHL => exact testBitAtHl_effect 7
  | bit7A => exact testBitReg_effect 7 .a
  | res0B => exact clearBitReg_effect 0 .b
  | res0C => exact clearBitReg_effect 0 .c
  | res0D => exact clearBitReg_effect 0 .d
  | res0E => exact clearBitReg_effect 0 .e
  | res0H => exact clearBitReg_effect 0 .h
  | res0L => exact clearBitReg_effect 0 .l
  | res0IndHL => exact clearBitAtHl_effect 0
  | res0A => exact clearBitReg_effect 0 .a
  | res1B => exact clearBitReg_effect 1 .b
  | res1C => exact clearBitReg_effect 1 .c
  | res1D => exact clearBitReg_effect 1 .d
  | res1E => exact clearBitReg_effect 1 .e
  | res1H => exact clearBitReg_effect 1 .h
  | res1L => exact clearBitReg_effect 1 .l
  | res1IndHL => exact clearBitAtHl_effect 1
  | res1A => exact clearBitReg_effect 1 .a
  | res2B => exact clearBitReg_effect 2 .b
  | res2C => exact clearBitReg_effect 2 .c
  | res2D => exact clearBitReg_effect 2 .d
  | res2E => exact clearBitReg_effect 2 .e
  | res2H => exact clearBitReg_effect 2 .h
  | res2L => exact clearBitReg_effect 2 .l
  | res2IndHL => exact clearBitAtHl_effect 2
  | res2A => exact clearBitReg_effect 2 .a
  | res3B => exact clearBitReg_effect 3 .b
  | res3C => exact clearBitReg_effect 3 .c
  | res3D => exact clearBitReg_effect 3 .d
  | res3E => exact clearBitReg_effect 3 .e
  | res3H => exact clearBitReg_effect 3 .h
  | res3L => exact clearBitReg_effect 3 .l
  | res3IndHL => exact clearBitAtHl_effect 3
  | res3A => exact clearBitReg_effect 3 .a
  | res4B => exact clearBitReg_effect 4 .b
  | res4C => exact clearBitReg_effect 4 .c
  | res4D => exact clearBitReg_effect 4 .d
  | res4E => exact clearBitReg_effect 4 .e
  | res4H => exact clearBitReg_effect 4 .h
  | res4L => exact clearBitReg_effect 4 .l
  | res4IndHL => exact clearBitAtHl_effect 4
  | res4A => exact clearBitReg_effect 4 .a
  | res5B => exact clearBitReg_effect 5 .b
  | res5C => exact clearBitReg_effect 5 .c
  | res5D => exact clearBitReg_effect 5 .d
  | res5E => exact clearBitReg_effect 5 .e
  | res5H => exact clearBitReg_effect 5 .h
  | res5L => exact clearBitReg_effect 5 .l
  | res5IndHL => exact clearBitAtHl_effect 5
  | res5A => exact clearBitReg_effect 5 .a
  | res6B => exact clearBitReg_effect 6 .b
  | res6C => exact clearBitReg_effect 6 .c
  | res6D => exact clearBitReg_effect 6 .d
  | res6E => exact clearBitReg_effect 6 .e
  | res6H => exact clearBitReg_effect 6 .h
  | res6L => exact clearBitReg_effect 6 .l
  | res6IndHL => exact clearBitAtHl_effect 6
  | res6A => exact clearBitReg_effect 6 .a
  | res7B => exact clearBitReg_effect 7 .b
  | res7C => exact clearBitReg_effect 7 .c
  | res7D => exact clearBitReg_effect 7 .d
  | res7E => exact clearBitReg_effect 7 .e
  | res7H => exact clearBitReg_effect 7 .h
  | res7L => exact clearBitReg_effect 7 .l
  | res7IndHL => exact clearBitAtHl_effect 7
  | res7A => exact clearBitReg_effect 7 .a
  | set0B => exact setBitReg_effect 0 .b
  | set0C => exact setBitReg_effect 0 .c
  | set0D => exact setBitReg_effect 0 .d
  | set0E => exact setBitReg_effect 0 .e
  | set0H => exact setBitReg_effect 0 .h
  | set0L => exact setBitReg_effect 0 .l
  | set0IndHL => exact setBitAtHl_effect 0
  | set0A => exact setBitReg_effect 0 .a
  | set1B => exact setBitReg_effect 1 .b
  | set1C => exact setBitReg_effect 1 .c
  | set1D => exact setBitReg_effect 1 .d
  | set1E => exact setBitReg_effect 1 .e
  | set1H => exact setBitReg_effect 1 .h
  | set1L => exact setBitReg_effect 1 .l
  | set1IndHL => exact setBitAtHl_effect 1
  | set1A => exact setBitReg_effect 1 .a
  | set2B => exact setBitReg_effect 2 .b
  | set2C => exact setBitReg_effect 2 .c
  | set2D => exact setBitReg_effect 2 .d
  | set2E => exact setBitReg_effect 2 .e
  | set2H => exact setBitReg_effect 2 .h
  | set2L => exact setBitReg_effect 2 .l
  | set2IndHL => exact setBitAtHl_effect 2
  | set2A => exact setBitReg_effect 2 .a
  | set3B => exact setBitReg_effect 3 .b
  | set3C => exact setBitReg_effect 3 .c
  | set3D => exact setBitReg_effect 3 .d
  | set3E => exact setBitReg_effect 3 .e
  | set3H => exact setBitReg_effect 3 .h
  | set3L => exact setBitReg_effect 3 .l
  | set3IndHL => exact setBitAtHl_effect 3
  | set3A => exact setBitReg_effect 3 .a
  | set4B => exact setBitReg_effect 4 .b
  | set4C => exact setBitReg_effect 4 .c
  | set4D => exact setBitReg_effect 4 .d
  | set4E => exact setBitReg_effect 4 .e
  | set4H => exact setBitReg_effect 4 .h
  | set4L => exact setBitReg_effect 4 .l
  | set4IndHL => exact setBitAtHl_effect 4
  | set4A => exact setBitReg_effect 4 .a
  | set5B => exact setBitReg_effect 5 .b
  | set5C => exact setBitReg_effect 5 .c
  | set5D => exact setBitReg_effect 5 .d
  | set5E => exact setBitReg_effect 5 .e
  | set5H => exact setBitReg_effect 5 .h
  | set5L => exact setBitReg_effect 5 .l
  | set5IndHL => exact setBitAtHl_effect 5
  | set5A => exact setBitReg_effect 5 .a
  | set6B => exact setBitReg_effect 6 .b
  | set6C => exact setBitReg_effect 6 .c
  | set6D => exact setBitReg_effect 6 .d
  | set6E => exact setBitReg_effect 6 .e
  | set6H => exact setBitReg_effect 6 .h
  | set6L => exact setBitReg_effect 6 .l
  | set6IndHL => exact setBitAtHl_effect 6
  | set6A => exact setBitReg_effect 6 .a
  | set7B => exact setBitReg_effect 7 .b
  | set7C => exact setBitReg_effect 7 .c
  | set7D => exact setBitReg_effect 7 .d
  | set7E => exact setBitReg_effect 7 .e
  | set7H => exact setBitReg_effect 7 .h
  | set7L => exact setBitReg_effect 7 .l
  | set7IndHL => exact setBitAtHl_effect 7
  | set7A => exact setBitReg_effect 7 .a

end Sys2Proof.Machine
end

