-- ==== Sys2Proof/Laws/Forms.lean ====
section
/-! SUPPORT. Each form's meaning as one shared operation of the form's fields, and the frames of the shared operations. -/

namespace Sys2Proof.Machine

section
variable (s : State)

theorem exec_ldReg (dst r : Reg8) : exec (Forms.ldReg dst r) s = loadReg dst r s := by
  cases dst <;> cases r <;> rfl
theorem exec_ldFromHl (r : Reg8) : exec (Forms.ldFromHl r) s = loadFrom 1 8 r State.hl s := by
  cases r <;> rfl
theorem exec_ldToHl (r : Reg8) : exec (Forms.ldToHl r) s = storeTo 1 8 State.hl r s := by
  cases r <;> rfl
theorem exec_ldImm (r : Reg8) (v : Byte) : exec (Forms.ldImm r v) s = loadImm r v s := by
  cases r <;> rfl
theorem exec_ldPair (p : Pair) (w : Word) : exec (Forms.ldPair p w) s = loadPair p w s := by
  cases p <;> rfl
theorem exec_push (p : StackPair) : exec (Forms.push p) s = pushPair p s := by cases p <;> rfl
theorem exec_pop (p : StackPair) : exec (Forms.pop p) s = popPair p s := by cases p <;> rfl
theorem exec_aluReg (op : AluOp) (r : Reg8) : exec (Forms.aluReg op r) s = aluReg op r s := by
  cases op <;> cases r <;> rfl
theorem exec_aluHl (op : AluOp) : exec (Forms.aluHl op) s = aluAtHl op s := by cases op <;> rfl
theorem exec_aluImm (op : AluOp) (v : Byte) : exec (Forms.aluImm op v) s = aluImm op v s := by
  cases op <;> rfl
theorem exec_incReg (r : Reg8) : exec (Forms.incReg r) s = incReg r s := by cases r <;> rfl
theorem exec_decReg (r : Reg8) : exec (Forms.decReg r) s = decReg r s := by cases r <;> rfl
theorem exec_addHl (p : Pair) : exec (Forms.addHl p) s = addHlPair p s := by cases p <;> rfl
theorem exec_incPair (p : Pair) : exec (Forms.incPair p) s = addToPair p 1 s := by cases p <;> rfl
theorem exec_decPair (p : Pair) : exec (Forms.decPair p) s = addToPair p (-1) s := by
  cases p <;> rfl
theorem exec_rotReg (k : RotOp) (r : Reg8) : exec (Forms.rotReg k r) s = rotReg k r s := by
  cases k <;> cases r <;> rfl
theorem exec_rotHl (k : RotOp) : exec (Forms.rotHl k) s = rotAtHl k s := by cases k <;> rfl
theorem exec_jp (cc : Cond) (w : Word) : exec (Forms.jp cc w) s = jumpIf cc w s := by
  cases cc <;> rfl
theorem exec_jr (cc : Cond) (v : Byte) : exec (Forms.jr cc v) s = jumpRelativeIf cc v s := by
  cases cc <;> rfl
theorem exec_call (cc : Cond) (w : Word) : exec (Forms.call cc w) s = callIf cc w s := by
  cases cc <;> rfl
theorem exec_ret (cc : Cond) : exec (Forms.ret cc) s = retIf cc s := by cases cc <;> rfl

end

/-- A 3-bit index is one of eight. -/
theorem bit3_cases (b : BitVec 3) :
    b = 0#3 ∨ b = 1#3 ∨ b = 2#3 ∨ b = 3#3 ∨ b = 4#3 ∨ b = 5#3 ∨ b = 6#3 ∨ b = 7#3 := by
  revert b; decide

section
variable (s : State)

theorem exec_bitReg (b : BitVec 3) (r : Reg8) :
    exec (Forms.bitReg b r) s = testBitReg b.toNat r s := by
  rcases bit3_cases b with rfl | rfl | rfl | rfl | rfl | rfl | rfl | rfl <;> cases r <;> rfl
theorem exec_resReg (b : BitVec 3) (r : Reg8) :
    exec (Forms.resReg b r) s = clearBitReg b.toNat r s := by
  rcases bit3_cases b with rfl | rfl | rfl | rfl | rfl | rfl | rfl | rfl <;> cases r <;> rfl
theorem exec_setReg (b : BitVec 3) (r : Reg8) :
    exec (Forms.setReg b r) s = setBitReg b.toNat r s := by
  rcases bit3_cases b with rfl | rfl | rfl | rfl | rfl | rfl | rfl | rfl <;> cases r <;> rfl
theorem exec_bitHl (b : BitVec 3) : exec (Forms.bitHl b) s = testBitAtHl b.toNat s := by
  rcases bit3_cases b with rfl | rfl | rfl | rfl | rfl | rfl | rfl | rfl <;> rfl
theorem exec_resHl (b : BitVec 3) : exec (Forms.resHl b) s = clearBitAtHl b.toNat s := by
  rcases bit3_cases b with rfl | rfl | rfl | rfl | rfl | rfl | rfl | rfl <;> rfl
theorem exec_setHl (b : BitVec 3) : exec (Forms.setHl b) s = setBitAtHl b.toNat s := by
  rcases bit3_cases b with rfl | rfl | rfl | rfl | rfl | rfl | rfl | rfl <;> rfl
theorem exec_rst (b : BitVec 3) :
    exec (Forms.rst b) s = call 1 16 (BitVec.ofNat 16 (b.toNat * 8)) s := by
  rcases bit3_cases b with rfl | rfl | rfl | rfl | rfl | rfl | rfl | rfl <;> rfl

end

/-- Replacing the register file touches nothing else. -/
theorem registerOnly_finish {s : State} {r : Regs} {except : List Reg8} (pc : Word) (n : Nat)
    (h : ∀ k, k ∉ except → r.get k = s.regs.get k) :
    RegisterOnly s (finish (s.clearHaltBug.withRegs r) pc n) except := by
  refine ⟨fun k hk => ?_, rfl, fun _ => rfl⟩
  rw [State.reg_finish]
  exact h k hk

/-- Setting one register and completing. -/
theorem setsRegister_finish (s : State) (k : Reg8) (v : Byte) (len n : Nat) :
    SetsRegister s (finish (s.clearHaltBug.setReg k v) (nextPc s len) n) k v len n := by
  refine ⟨?_, ?_, ?_, ⟨rfl, rfl⟩, registerOnly_finish _ _ fun j hj => ?_⟩
  · rw [State.reg_finish, State.reg_setReg_same]
  · exact Regs.put_flags _ _ _
  · exact Regs.put_sp _ _ _
  · exact Regs.get_put_other _ _ _ _ (by simpa using hj)

/-- Setting PC only. -/
theorem jumps_finish (s : State) (pc : Word) (n : Nat) :
    Jumps s (finish s.clearHaltBug pc n) pc n :=
  ⟨⟨rfl, rfl⟩, rfl, rfl, registerOnly_finish pc n fun _ _ => rfl⟩

theorem condMet_iff (cc : Cond) (f : Flags) : CondMet cc f ↔ cc.holds f = true := by
  cases cc <;> simp [CondMet, Cond.holds]

end Sys2Proof.Machine
end

