-- ==== Sys2Proof/Laws/PerInstr.lean ====
section
/-! SUPPORT. The encoder and the decoder agree, instruction by instruction (30_encoding.md R180 to R191). -/

namespace Sys2Proof.Laws

/-- A well-formed instruction's bytes, with any bytes after them, decode to it and leave those bytes.
The encoder and the decoder are written from the maps of R187 and R188. -/
def EncodingRoundTrip.Statement (i : Instr) : Prop :=
  i.wellFormed = true → ∀ rest : List Byte, decode (encode i ++ rest) = .ok (i, rest)

theorem EncodingRoundTrip.nop : EncodingRoundTrip.Statement .nop := fun _ _ => rfl
theorem EncodingRoundTrip.ldBCD16 (d16 : Word) : EncodingRoundTrip.Statement (.ldBCD16 d16) :=
  fun _ rest => congrArg (fun w => Except.ok (Instr.ldBCD16 w, rest)) (wordOf_highByte_lowByte d16)
theorem EncodingRoundTrip.ldIndBCA : EncodingRoundTrip.Statement .ldIndBCA := fun _ _ => rfl
theorem EncodingRoundTrip.incBC : EncodingRoundTrip.Statement .incBC := fun _ _ => rfl
theorem EncodingRoundTrip.incB : EncodingRoundTrip.Statement .incB := fun _ _ => rfl
theorem EncodingRoundTrip.decB : EncodingRoundTrip.Statement .decB := fun _ _ => rfl
theorem EncodingRoundTrip.ldBD8 (d8 : Byte) : EncodingRoundTrip.Statement (.ldBD8 d8) :=
  fun _ _ => rfl
theorem EncodingRoundTrip.rlca : EncodingRoundTrip.Statement .rlca := fun _ _ => rfl
theorem EncodingRoundTrip.ldIndA16SP (a16 : Word) : EncodingRoundTrip.Statement (.ldIndA16SP a16) :=
  fun _ rest => congrArg (fun w => Except.ok (Instr.ldIndA16SP w, rest)) (wordOf_highByte_lowByte a16)
theorem EncodingRoundTrip.addHLBC : EncodingRoundTrip.Statement .addHLBC := fun _ _ => rfl
theorem EncodingRoundTrip.ldAIndBC : EncodingRoundTrip.Statement .ldAIndBC := fun _ _ => rfl
theorem EncodingRoundTrip.decBC : EncodingRoundTrip.Statement .decBC := fun _ _ => rfl
theorem EncodingRoundTrip.incC : EncodingRoundTrip.Statement .incC := fun _ _ => rfl
theorem EncodingRoundTrip.decC : EncodingRoundTrip.Statement .decC := fun _ _ => rfl
theorem EncodingRoundTrip.ldCD8 (d8 : Byte) : EncodingRoundTrip.Statement (.ldCD8 d8) :=
  fun _ _ => rfl
theorem EncodingRoundTrip.rrca : EncodingRoundTrip.Statement .rrca := fun _ _ => rfl
theorem EncodingRoundTrip.stop (ignored : Byte) : EncodingRoundTrip.Statement (.stop ignored) :=
  fun _ _ => rfl
theorem EncodingRoundTrip.ldDED16 (d16 : Word) : EncodingRoundTrip.Statement (.ldDED16 d16) :=
  fun _ rest => congrArg (fun w => Except.ok (Instr.ldDED16 w, rest)) (wordOf_highByte_lowByte d16)
theorem EncodingRoundTrip.ldIndDEA : EncodingRoundTrip.Statement .ldIndDEA := fun _ _ => rfl
theorem EncodingRoundTrip.incDE : EncodingRoundTrip.Statement .incDE := fun _ _ => rfl
theorem EncodingRoundTrip.incD : EncodingRoundTrip.Statement .incD := fun _ _ => rfl
theorem EncodingRoundTrip.decD : EncodingRoundTrip.Statement .decD := fun _ _ => rfl
theorem EncodingRoundTrip.ldDD8 (d8 : Byte) : EncodingRoundTrip.Statement (.ldDD8 d8) :=
  fun _ _ => rfl
theorem EncodingRoundTrip.rla : EncodingRoundTrip.Statement .rla := fun _ _ => rfl
theorem EncodingRoundTrip.jrE8 (e8 : Byte) : EncodingRoundTrip.Statement (.jrE8 e8) :=
  fun _ _ => rfl
theorem EncodingRoundTrip.addHLDE : EncodingRoundTrip.Statement .addHLDE := fun _ _ => rfl
theorem EncodingRoundTrip.ldAIndDE : EncodingRoundTrip.Statement .ldAIndDE := fun _ _ => rfl
theorem EncodingRoundTrip.decDE : EncodingRoundTrip.Statement .decDE := fun _ _ => rfl
theorem EncodingRoundTrip.incE : EncodingRoundTrip.Statement .incE := fun _ _ => rfl
theorem EncodingRoundTrip.decE : EncodingRoundTrip.Statement .decE := fun _ _ => rfl
theorem EncodingRoundTrip.ldED8 (d8 : Byte) : EncodingRoundTrip.Statement (.ldED8 d8) :=
  fun _ _ => rfl
theorem EncodingRoundTrip.rra : EncodingRoundTrip.Statement .rra := fun _ _ => rfl
theorem EncodingRoundTrip.jrNZE8 (e8 : Byte) : EncodingRoundTrip.Statement (.jrNZE8 e8) :=
  fun _ _ => rfl
theorem EncodingRoundTrip.ldHLD16 (d16 : Word) : EncodingRoundTrip.Statement (.ldHLD16 d16) :=
  fun _ rest => congrArg (fun w => Except.ok (Instr.ldHLD16 w, rest)) (wordOf_highByte_lowByte d16)
theorem EncodingRoundTrip.ldIndHLIncA : EncodingRoundTrip.Statement .ldIndHLIncA := fun _ _ => rfl
theorem EncodingRoundTrip.incHL : EncodingRoundTrip.Statement .incHL := fun _ _ => rfl
theorem EncodingRoundTrip.incH : EncodingRoundTrip.Statement .incH := fun _ _ => rfl
theorem EncodingRoundTrip.decH : EncodingRoundTrip.Statement .decH := fun _ _ => rfl
theorem EncodingRoundTrip.ldHD8 (d8 : Byte) : EncodingRoundTrip.Statement (.ldHD8 d8) :=
  fun _ _ => rfl
theorem EncodingRoundTrip.daa : EncodingRoundTrip.Statement .daa := fun _ _ => rfl
theorem EncodingRoundTrip.jrZE8 (e8 : Byte) : EncodingRoundTrip.Statement (.jrZE8 e8) :=
  fun _ _ => rfl
theorem EncodingRoundTrip.addHLHL : EncodingRoundTrip.Statement .addHLHL := fun _ _ => rfl
theorem EncodingRoundTrip.ldAIndHLInc : EncodingRoundTrip.Statement .ldAIndHLInc := fun _ _ => rfl
theorem EncodingRoundTrip.decHL : EncodingRoundTrip.Statement .decHL := fun _ _ => rfl
theorem EncodingRoundTrip.incL : EncodingRoundTrip.Statement .incL := fun _ _ => rfl
theorem EncodingRoundTrip.decL : EncodingRoundTrip.Statement .decL := fun _ _ => rfl
theorem EncodingRoundTrip.ldLD8 (d8 : Byte) : EncodingRoundTrip.Statement (.ldLD8 d8) :=
  fun _ _ => rfl
theorem EncodingRoundTrip.cpl : EncodingRoundTrip.Statement .cpl := fun _ _ => rfl
theorem EncodingRoundTrip.jrNCE8 (e8 : Byte) : EncodingRoundTrip.Statement (.jrNCE8 e8) :=
  fun _ _ => rfl
theorem EncodingRoundTrip.ldSPD16 (d16 : Word) : EncodingRoundTrip.Statement (.ldSPD16 d16) :=
  fun _ rest => congrArg (fun w => Except.ok (Instr.ldSPD16 w, rest)) (wordOf_highByte_lowByte d16)
theorem EncodingRoundTrip.ldIndHLDecA : EncodingRoundTrip.Statement .ldIndHLDecA := fun _ _ => rfl
theorem EncodingRoundTrip.incSP : EncodingRoundTrip.Statement .incSP := fun _ _ => rfl
theorem EncodingRoundTrip.incIndHL : EncodingRoundTrip.Statement .incIndHL := fun _ _ => rfl
theorem EncodingRoundTrip.decIndHL : EncodingRoundTrip.Statement .decIndHL := fun _ _ => rfl
theorem EncodingRoundTrip.ldIndHLD8 (d8 : Byte) : EncodingRoundTrip.Statement (.ldIndHLD8 d8) :=
  fun _ _ => rfl
theorem EncodingRoundTrip.scf : EncodingRoundTrip.Statement .scf := fun _ _ => rfl
theorem EncodingRoundTrip.jrCE8 (e8 : Byte) : EncodingRoundTrip.Statement (.jrCE8 e8) :=
  fun _ _ => rfl
theorem EncodingRoundTrip.addHLSP : EncodingRoundTrip.Statement .addHLSP := fun _ _ => rfl
theorem EncodingRoundTrip.ldAIndHLDec : EncodingRoundTrip.Statement .ldAIndHLDec := fun _ _ => rfl
theorem EncodingRoundTrip.decSP : EncodingRoundTrip.Statement .decSP := fun _ _ => rfl
theorem EncodingRoundTrip.incA : EncodingRoundTrip.Statement .incA := fun _ _ => rfl
theorem EncodingRoundTrip.decA : EncodingRoundTrip.Statement .decA := fun _ _ => rfl
theorem EncodingRoundTrip.ldAD8 (d8 : Byte) : EncodingRoundTrip.Statement (.ldAD8 d8) :=
  fun _ _ => rfl
theorem EncodingRoundTrip.ccf : EncodingRoundTrip.Statement .ccf := fun _ _ => rfl
theorem EncodingRoundTrip.ldBB : EncodingRoundTrip.Statement .ldBB := fun _ _ => rfl
theorem EncodingRoundTrip.ldBC : EncodingRoundTrip.Statement .ldBC := fun _ _ => rfl
theorem EncodingRoundTrip.ldBD : EncodingRoundTrip.Statement .ldBD := fun _ _ => rfl
theorem EncodingRoundTrip.ldBE : EncodingRoundTrip.Statement .ldBE := fun _ _ => rfl
theorem EncodingRoundTrip.ldBH : EncodingRoundTrip.Statement .ldBH := fun _ _ => rfl
theorem EncodingRoundTrip.ldBL : EncodingRoundTrip.Statement .ldBL := fun _ _ => rfl
theorem EncodingRoundTrip.ldBIndHL : EncodingRoundTrip.Statement .ldBIndHL := fun _ _ => rfl
theorem EncodingRoundTrip.ldBA : EncodingRoundTrip.Statement .ldBA := fun _ _ => rfl
theorem EncodingRoundTrip.ldCB : EncodingRoundTrip.Statement .ldCB := fun _ _ => rfl
theorem EncodingRoundTrip.ldCC : EncodingRoundTrip.Statement .ldCC := fun _ _ => rfl
theorem EncodingRoundTrip.ldCD : EncodingRoundTrip.Statement .ldCD := fun _ _ => rfl
theorem EncodingRoundTrip.ldCE : EncodingRoundTrip.Statement .ldCE := fun _ _ => rfl
theorem EncodingRoundTrip.ldCH : EncodingRoundTrip.Statement .ldCH := fun _ _ => rfl
theorem EncodingRoundTrip.ldCL : EncodingRoundTrip.Statement .ldCL := fun _ _ => rfl
theorem EncodingRoundTrip.ldCIndHL : EncodingRoundTrip.Statement .ldCIndHL := fun _ _ => rfl
theorem EncodingRoundTrip.ldCA : EncodingRoundTrip.Statement .ldCA := fun _ _ => rfl
theorem EncodingRoundTrip.ldDB : EncodingRoundTrip.Statement .ldDB := fun _ _ => rfl
theorem EncodingRoundTrip.ldDC : EncodingRoundTrip.Statement .ldDC := fun _ _ => rfl
theorem EncodingRoundTrip.ldDD : EncodingRoundTrip.Statement .ldDD := fun _ _ => rfl
theorem EncodingRoundTrip.ldDE : EncodingRoundTrip.Statement .ldDE := fun _ _ => rfl
theorem EncodingRoundTrip.ldDH : EncodingRoundTrip.Statement .ldDH := fun _ _ => rfl
theorem EncodingRoundTrip.ldDL : EncodingRoundTrip.Statement .ldDL := fun _ _ => rfl
theorem EncodingRoundTrip.ldDIndHL : EncodingRoundTrip.Statement .ldDIndHL := fun _ _ => rfl
theorem EncodingRoundTrip.ldDA : EncodingRoundTrip.Statement .ldDA := fun _ _ => rfl
theorem EncodingRoundTrip.ldEB : EncodingRoundTrip.Statement .ldEB := fun _ _ => rfl
theorem EncodingRoundTrip.ldEC : EncodingRoundTrip.Statement .ldEC := fun _ _ => rfl
theorem EncodingRoundTrip.ldED : EncodingRoundTrip.Statement .ldED := fun _ _ => rfl
theorem EncodingRoundTrip.ldEE : EncodingRoundTrip.Statement .ldEE := fun _ _ => rfl
theorem EncodingRoundTrip.ldEH : EncodingRoundTrip.Statement .ldEH := fun _ _ => rfl
theorem EncodingRoundTrip.ldEL : EncodingRoundTrip.Statement .ldEL := fun _ _ => rfl
theorem EncodingRoundTrip.ldEIndHL : EncodingRoundTrip.Statement .ldEIndHL := fun _ _ => rfl
theorem EncodingRoundTrip.ldEA : EncodingRoundTrip.Statement .ldEA := fun _ _ => rfl
theorem EncodingRoundTrip.ldHB : EncodingRoundTrip.Statement .ldHB := fun _ _ => rfl
theorem EncodingRoundTrip.ldHC : EncodingRoundTrip.Statement .ldHC := fun _ _ => rfl
theorem EncodingRoundTrip.ldHD : EncodingRoundTrip.Statement .ldHD := fun _ _ => rfl
theorem EncodingRoundTrip.ldHE : EncodingRoundTrip.Statement .ldHE := fun _ _ => rfl
theorem EncodingRoundTrip.ldHH : EncodingRoundTrip.Statement .ldHH := fun _ _ => rfl
theorem EncodingRoundTrip.ldHL : EncodingRoundTrip.Statement .ldHL := fun _ _ => rfl
theorem EncodingRoundTrip.ldHIndHL : EncodingRoundTrip.Statement .ldHIndHL := fun _ _ => rfl
theorem EncodingRoundTrip.ldHA : EncodingRoundTrip.Statement .ldHA := fun _ _ => rfl
theorem EncodingRoundTrip.ldLB : EncodingRoundTrip.Statement .ldLB := fun _ _ => rfl
theorem EncodingRoundTrip.ldLC : EncodingRoundTrip.Statement .ldLC := fun _ _ => rfl
theorem EncodingRoundTrip.ldLD : EncodingRoundTrip.Statement .ldLD := fun _ _ => rfl
theorem EncodingRoundTrip.ldLE : EncodingRoundTrip.Statement .ldLE := fun _ _ => rfl
theorem EncodingRoundTrip.ldLH : EncodingRoundTrip.Statement .ldLH := fun _ _ => rfl
theorem EncodingRoundTrip.ldLL : EncodingRoundTrip.Statement .ldLL := fun _ _ => rfl
theorem EncodingRoundTrip.ldLIndHL : EncodingRoundTrip.Statement .ldLIndHL := fun _ _ => rfl
theorem EncodingRoundTrip.ldLA : EncodingRoundTrip.Statement .ldLA := fun _ _ => rfl
theorem EncodingRoundTrip.ldIndHLB : EncodingRoundTrip.Statement .ldIndHLB := fun _ _ => rfl
theorem EncodingRoundTrip.ldIndHLC : EncodingRoundTrip.Statement .ldIndHLC := fun _ _ => rfl
theorem EncodingRoundTrip.ldIndHLD : EncodingRoundTrip.Statement .ldIndHLD := fun _ _ => rfl
theorem EncodingRoundTrip.ldIndHLE : EncodingRoundTrip.Statement .ldIndHLE := fun _ _ => rfl
theorem EncodingRoundTrip.ldIndHLH : EncodingRoundTrip.Statement .ldIndHLH := fun _ _ => rfl
theorem EncodingRoundTrip.ldIndHLL : EncodingRoundTrip.Statement .ldIndHLL := fun _ _ => rfl
theorem EncodingRoundTrip.halt : EncodingRoundTrip.Statement .halt := fun _ _ => rfl
theorem EncodingRoundTrip.ldIndHLA : EncodingRoundTrip.Statement .ldIndHLA := fun _ _ => rfl
theorem EncodingRoundTrip.ldAB : EncodingRoundTrip.Statement .ldAB := fun _ _ => rfl
theorem EncodingRoundTrip.ldAC : EncodingRoundTrip.Statement .ldAC := fun _ _ => rfl
theorem EncodingRoundTrip.ldAD : EncodingRoundTrip.Statement .ldAD := fun _ _ => rfl
theorem EncodingRoundTrip.ldAE : EncodingRoundTrip.Statement .ldAE := fun _ _ => rfl
theorem EncodingRoundTrip.ldAH : EncodingRoundTrip.Statement .ldAH := fun _ _ => rfl
theorem EncodingRoundTrip.ldAL : EncodingRoundTrip.Statement .ldAL := fun _ _ => rfl
theorem EncodingRoundTrip.ldAIndHL : EncodingRoundTrip.Statement .ldAIndHL := fun _ _ => rfl
theorem EncodingRoundTrip.ldAA : EncodingRoundTrip.Statement .ldAA := fun _ _ => rfl
theorem EncodingRoundTrip.addAB : EncodingRoundTrip.Statement .addAB := fun _ _ => rfl
theorem EncodingRoundTrip.addAC : EncodingRoundTrip.Statement .addAC := fun _ _ => rfl
theorem EncodingRoundTrip.addAD : EncodingRoundTrip.Statement .addAD := fun _ _ => rfl
theorem EncodingRoundTrip.addAE : EncodingRoundTrip.Statement .addAE := fun _ _ => rfl
theorem EncodingRoundTrip.addAH : EncodingRoundTrip.Statement .addAH := fun _ _ => rfl
theorem EncodingRoundTrip.addAL : EncodingRoundTrip.Statement .addAL := fun _ _ => rfl
theorem EncodingRoundTrip.addAIndHL : EncodingRoundTrip.Statement .addAIndHL := fun _ _ => rfl
theorem EncodingRoundTrip.addAA : EncodingRoundTrip.Statement .addAA := fun _ _ => rfl
theorem EncodingRoundTrip.adcAB : EncodingRoundTrip.Statement .adcAB := fun _ _ => rfl
theorem EncodingRoundTrip.adcAC : EncodingRoundTrip.Statement .adcAC := fun _ _ => rfl
theorem EncodingRoundTrip.adcAD : EncodingRoundTrip.Statement .adcAD := fun _ _ => rfl
theorem EncodingRoundTrip.adcAE : EncodingRoundTrip.Statement .adcAE := fun _ _ => rfl
theorem EncodingRoundTrip.adcAH : EncodingRoundTrip.Statement .adcAH := fun _ _ => rfl
theorem EncodingRoundTrip.adcAL : EncodingRoundTrip.Statement .adcAL := fun _ _ => rfl
theorem EncodingRoundTrip.adcAIndHL : EncodingRoundTrip.Statement .adcAIndHL := fun _ _ => rfl
theorem EncodingRoundTrip.adcAA : EncodingRoundTrip.Statement .adcAA := fun _ _ => rfl
theorem EncodingRoundTrip.subB : EncodingRoundTrip.Statement .subB := fun _ _ => rfl
theorem EncodingRoundTrip.subC : EncodingRoundTrip.Statement .subC := fun _ _ => rfl
theorem EncodingRoundTrip.subD : EncodingRoundTrip.Statement .subD := fun _ _ => rfl
theorem EncodingRoundTrip.subE : EncodingRoundTrip.Statement .subE := fun _ _ => rfl
theorem EncodingRoundTrip.subH : EncodingRoundTrip.Statement .subH := fun _ _ => rfl
theorem EncodingRoundTrip.subL : EncodingRoundTrip.Statement .subL := fun _ _ => rfl
theorem EncodingRoundTrip.subIndHL : EncodingRoundTrip.Statement .subIndHL := fun _ _ => rfl
theorem EncodingRoundTrip.subA : EncodingRoundTrip.Statement .subA := fun _ _ => rfl
theorem EncodingRoundTrip.sbcAB : EncodingRoundTrip.Statement .sbcAB := fun _ _ => rfl
theorem EncodingRoundTrip.sbcAC : EncodingRoundTrip.Statement .sbcAC := fun _ _ => rfl
theorem EncodingRoundTrip.sbcAD : EncodingRoundTrip.Statement .sbcAD := fun _ _ => rfl
theorem EncodingRoundTrip.sbcAE : EncodingRoundTrip.Statement .sbcAE := fun _ _ => rfl
theorem EncodingRoundTrip.sbcAH : EncodingRoundTrip.Statement .sbcAH := fun _ _ => rfl
theorem EncodingRoundTrip.sbcAL : EncodingRoundTrip.Statement .sbcAL := fun _ _ => rfl
theorem EncodingRoundTrip.sbcAIndHL : EncodingRoundTrip.Statement .sbcAIndHL := fun _ _ => rfl
theorem EncodingRoundTrip.sbcAA : EncodingRoundTrip.Statement .sbcAA := fun _ _ => rfl
theorem EncodingRoundTrip.andB : EncodingRoundTrip.Statement .andB := fun _ _ => rfl
theorem EncodingRoundTrip.andC : EncodingRoundTrip.Statement .andC := fun _ _ => rfl
theorem EncodingRoundTrip.andD : EncodingRoundTrip.Statement .andD := fun _ _ => rfl
theorem EncodingRoundTrip.andE : EncodingRoundTrip.Statement .andE := fun _ _ => rfl
theorem EncodingRoundTrip.andH : EncodingRoundTrip.Statement .andH := fun _ _ => rfl
theorem EncodingRoundTrip.andL : EncodingRoundTrip.Statement .andL := fun _ _ => rfl
theorem EncodingRoundTrip.andIndHL : EncodingRoundTrip.Statement .andIndHL := fun _ _ => rfl
theorem EncodingRoundTrip.andA : EncodingRoundTrip.Statement .andA := fun _ _ => rfl
theorem EncodingRoundTrip.xorB : EncodingRoundTrip.Statement .xorB := fun _ _ => rfl
theorem EncodingRoundTrip.xorC : EncodingRoundTrip.Statement .xorC := fun _ _ => rfl
theorem EncodingRoundTrip.xorD : EncodingRoundTrip.Statement .xorD := fun _ _ => rfl
theorem EncodingRoundTrip.xorE : EncodingRoundTrip.Statement .xorE := fun _ _ => rfl
theorem EncodingRoundTrip.xorH : EncodingRoundTrip.Statement .xorH := fun _ _ => rfl
theorem EncodingRoundTrip.xorL : EncodingRoundTrip.Statement .xorL := fun _ _ => rfl
theorem EncodingRoundTrip.xorIndHL : EncodingRoundTrip.Statement .xorIndHL := fun _ _ => rfl
theorem EncodingRoundTrip.xorA : EncodingRoundTrip.Statement .xorA := fun _ _ => rfl
theorem EncodingRoundTrip.orB : EncodingRoundTrip.Statement .orB := fun _ _ => rfl
theorem EncodingRoundTrip.orC : EncodingRoundTrip.Statement .orC := fun _ _ => rfl
theorem EncodingRoundTrip.orD : EncodingRoundTrip.Statement .orD := fun _ _ => rfl
theorem EncodingRoundTrip.orE : EncodingRoundTrip.Statement .orE := fun _ _ => rfl
theorem EncodingRoundTrip.orH : EncodingRoundTrip.Statement .orH := fun _ _ => rfl
theorem EncodingRoundTrip.orL : EncodingRoundTrip.Statement .orL := fun _ _ => rfl
theorem EncodingRoundTrip.orIndHL : EncodingRoundTrip.Statement .orIndHL := fun _ _ => rfl
theorem EncodingRoundTrip.orA : EncodingRoundTrip.Statement .orA := fun _ _ => rfl
theorem EncodingRoundTrip.cpB : EncodingRoundTrip.Statement .cpB := fun _ _ => rfl
theorem EncodingRoundTrip.cpC : EncodingRoundTrip.Statement .cpC := fun _ _ => rfl
theorem EncodingRoundTrip.cpD : EncodingRoundTrip.Statement .cpD := fun _ _ => rfl
theorem EncodingRoundTrip.cpE : EncodingRoundTrip.Statement .cpE := fun _ _ => rfl
theorem EncodingRoundTrip.cpH : EncodingRoundTrip.Statement .cpH := fun _ _ => rfl
theorem EncodingRoundTrip.cpL : EncodingRoundTrip.Statement .cpL := fun _ _ => rfl
theorem EncodingRoundTrip.cpIndHL : EncodingRoundTrip.Statement .cpIndHL := fun _ _ => rfl
theorem EncodingRoundTrip.cpA : EncodingRoundTrip.Statement .cpA := fun _ _ => rfl
theorem EncodingRoundTrip.retNZ : EncodingRoundTrip.Statement .retNZ := fun _ _ => rfl
theorem EncodingRoundTrip.popBC : EncodingRoundTrip.Statement .popBC := fun _ _ => rfl
theorem EncodingRoundTrip.jpNZA16 (a16 : Word) : EncodingRoundTrip.Statement (.jpNZA16 a16) :=
  fun _ rest => congrArg (fun w => Except.ok (Instr.jpNZA16 w, rest)) (wordOf_highByte_lowByte a16)
theorem EncodingRoundTrip.jpA16 (a16 : Word) : EncodingRoundTrip.Statement (.jpA16 a16) :=
  fun _ rest => congrArg (fun w => Except.ok (Instr.jpA16 w, rest)) (wordOf_highByte_lowByte a16)
theorem EncodingRoundTrip.callNZA16 (a16 : Word) : EncodingRoundTrip.Statement (.callNZA16 a16) :=
  fun _ rest => congrArg (fun w => Except.ok (Instr.callNZA16 w, rest)) (wordOf_highByte_lowByte a16)
theorem EncodingRoundTrip.pushBC : EncodingRoundTrip.Statement .pushBC := fun _ _ => rfl
theorem EncodingRoundTrip.addAD8 (d8 : Byte) : EncodingRoundTrip.Statement (.addAD8 d8) :=
  fun _ _ => rfl
theorem EncodingRoundTrip.rst00 : EncodingRoundTrip.Statement .rst00 := fun _ _ => rfl
theorem EncodingRoundTrip.retZ : EncodingRoundTrip.Statement .retZ := fun _ _ => rfl
theorem EncodingRoundTrip.ret : EncodingRoundTrip.Statement .ret := fun _ _ => rfl
theorem EncodingRoundTrip.jpZA16 (a16 : Word) : EncodingRoundTrip.Statement (.jpZA16 a16) :=
  fun _ rest => congrArg (fun w => Except.ok (Instr.jpZA16 w, rest)) (wordOf_highByte_lowByte a16)
theorem EncodingRoundTrip.cbPrefix (cbop : Byte) : EncodingRoundTrip.Statement (.cbPrefix cbop) := nofun
theorem EncodingRoundTrip.callZA16 (a16 : Word) : EncodingRoundTrip.Statement (.callZA16 a16) :=
  fun _ rest => congrArg (fun w => Except.ok (Instr.callZA16 w, rest)) (wordOf_highByte_lowByte a16)
theorem EncodingRoundTrip.callA16 (a16 : Word) : EncodingRoundTrip.Statement (.callA16 a16) :=
  fun _ rest => congrArg (fun w => Except.ok (Instr.callA16 w, rest)) (wordOf_highByte_lowByte a16)
theorem EncodingRoundTrip.adcAD8 (d8 : Byte) : EncodingRoundTrip.Statement (.adcAD8 d8) :=
  fun _ _ => rfl
theorem EncodingRoundTrip.rst08 : EncodingRoundTrip.Statement .rst08 := fun _ _ => rfl
theorem EncodingRoundTrip.retNC : EncodingRoundTrip.Statement .retNC := fun _ _ => rfl
theorem EncodingRoundTrip.popDE : EncodingRoundTrip.Statement .popDE := fun _ _ => rfl
theorem EncodingRoundTrip.jpNCA16 (a16 : Word) : EncodingRoundTrip.Statement (.jpNCA16 a16) :=
  fun _ rest => congrArg (fun w => Except.ok (Instr.jpNCA16 w, rest)) (wordOf_highByte_lowByte a16)
theorem EncodingRoundTrip.illegalD3 : EncodingRoundTrip.Statement .illegalD3 := fun _ _ => rfl
theorem EncodingRoundTrip.callNCA16 (a16 : Word) : EncodingRoundTrip.Statement (.callNCA16 a16) :=
  fun _ rest => congrArg (fun w => Except.ok (Instr.callNCA16 w, rest)) (wordOf_highByte_lowByte a16)
theorem EncodingRoundTrip.pushDE : EncodingRoundTrip.Statement .pushDE := fun _ _ => rfl
theorem EncodingRoundTrip.subD8 (d8 : Byte) : EncodingRoundTrip.Statement (.subD8 d8) :=
  fun _ _ => rfl
theorem EncodingRoundTrip.rst10 : EncodingRoundTrip.Statement .rst10 := fun _ _ => rfl
theorem EncodingRoundTrip.retC : EncodingRoundTrip.Statement .retC := fun _ _ => rfl
theorem EncodingRoundTrip.reti : EncodingRoundTrip.Statement .reti := fun _ _ => rfl
theorem EncodingRoundTrip.jpCA16 (a16 : Word) : EncodingRoundTrip.Statement (.jpCA16 a16) :=
  fun _ rest => congrArg (fun w => Except.ok (Instr.jpCA16 w, rest)) (wordOf_highByte_lowByte a16)
theorem EncodingRoundTrip.illegalDB : EncodingRoundTrip.Statement .illegalDB := fun _ _ => rfl
theorem EncodingRoundTrip.callCA16 (a16 : Word) : EncodingRoundTrip.Statement (.callCA16 a16) :=
  fun _ rest => congrArg (fun w => Except.ok (Instr.callCA16 w, rest)) (wordOf_highByte_lowByte a16)
theorem EncodingRoundTrip.illegalDD : EncodingRoundTrip.Statement .illegalDD := fun _ _ => rfl
theorem EncodingRoundTrip.sbcAD8 (d8 : Byte) : EncodingRoundTrip.Statement (.sbcAD8 d8) :=
  fun _ _ => rfl
theorem EncodingRoundTrip.rst18 : EncodingRoundTrip.Statement .rst18 := fun _ _ => rfl
theorem EncodingRoundTrip.ldhIndA8A (a8 : Byte) : EncodingRoundTrip.Statement (.ldhIndA8A a8) :=
  fun _ _ => rfl
theorem EncodingRoundTrip.popHL : EncodingRoundTrip.Statement .popHL := fun _ _ => rfl
theorem EncodingRoundTrip.ldhIndCA : EncodingRoundTrip.Statement .ldhIndCA := fun _ _ => rfl
theorem EncodingRoundTrip.illegalE3 : EncodingRoundTrip.Statement .illegalE3 := fun _ _ => rfl
theorem EncodingRoundTrip.illegalE4 : EncodingRoundTrip.Statement .illegalE4 := fun _ _ => rfl
theorem EncodingRoundTrip.pushHL : EncodingRoundTrip.Statement .pushHL := fun _ _ => rfl
theorem EncodingRoundTrip.andD8 (d8 : Byte) : EncodingRoundTrip.Statement (.andD8 d8) :=
  fun _ _ => rfl
theorem EncodingRoundTrip.rst20 : EncodingRoundTrip.Statement .rst20 := fun _ _ => rfl
theorem EncodingRoundTrip.addSPE8 (e8 : Byte) : EncodingRoundTrip.Statement (.addSPE8 e8) :=
  fun _ _ => rfl
theorem EncodingRoundTrip.jpHL : EncodingRoundTrip.Statement .jpHL := fun _ _ => rfl
theorem EncodingRoundTrip.ldIndA16A (a16 : Word) : EncodingRoundTrip.Statement (.ldIndA16A a16) :=
  fun _ rest => congrArg (fun w => Except.ok (Instr.ldIndA16A w, rest)) (wordOf_highByte_lowByte a16)
theorem EncodingRoundTrip.illegalEB : EncodingRoundTrip.Statement .illegalEB := fun _ _ => rfl
theorem EncodingRoundTrip.illegalEC : EncodingRoundTrip.Statement .illegalEC := fun _ _ => rfl
theorem EncodingRoundTrip.illegalED : EncodingRoundTrip.Statement .illegalED := fun _ _ => rfl
theorem EncodingRoundTrip.xorD8 (d8 : Byte) : EncodingRoundTrip.Statement (.xorD8 d8) :=
  fun _ _ => rfl
theorem EncodingRoundTrip.rst28 : EncodingRoundTrip.Statement .rst28 := fun _ _ => rfl
theorem EncodingRoundTrip.ldhAIndA8 (a8 : Byte) : EncodingRoundTrip.Statement (.ldhAIndA8 a8) :=
  fun _ _ => rfl
theorem EncodingRoundTrip.popAF : EncodingRoundTrip.Statement .popAF := fun _ _ => rfl
theorem EncodingRoundTrip.ldhAIndC : EncodingRoundTrip.Statement .ldhAIndC := fun _ _ => rfl
theorem EncodingRoundTrip.di : EncodingRoundTrip.Statement .di := fun _ _ => rfl
theorem EncodingRoundTrip.illegalF4 : EncodingRoundTrip.Statement .illegalF4 := fun _ _ => rfl
theorem EncodingRoundTrip.pushAF : EncodingRoundTrip.Statement .pushAF := fun _ _ => rfl
theorem EncodingRoundTrip.orD8 (d8 : Byte) : EncodingRoundTrip.Statement (.orD8 d8) :=
  fun _ _ => rfl
theorem EncodingRoundTrip.rst30 : EncodingRoundTrip.Statement .rst30 := fun _ _ => rfl
theorem EncodingRoundTrip.ldHLSPE8 (e8 : Byte) : EncodingRoundTrip.Statement (.ldHLSPE8 e8) :=
  fun _ _ => rfl
theorem EncodingRoundTrip.ldSPHL : EncodingRoundTrip.Statement .ldSPHL := fun _ _ => rfl
theorem EncodingRoundTrip.ldAIndA16 (a16 : Word) : EncodingRoundTrip.Statement (.ldAIndA16 a16) :=
  fun _ rest => congrArg (fun w => Except.ok (Instr.ldAIndA16 w, rest)) (wordOf_highByte_lowByte a16)
theorem EncodingRoundTrip.ei : EncodingRoundTrip.Statement .ei := fun _ _ => rfl
theorem EncodingRoundTrip.illegalFC : EncodingRoundTrip.Statement .illegalFC := fun _ _ => rfl
theorem EncodingRoundTrip.illegalFD : EncodingRoundTrip.Statement .illegalFD := fun _ _ => rfl
theorem EncodingRoundTrip.cpD8 (d8 : Byte) : EncodingRoundTrip.Statement (.cpD8 d8) :=
  fun _ _ => rfl
theorem EncodingRoundTrip.rst38 : EncodingRoundTrip.Statement .rst38 := fun _ _ => rfl
theorem EncodingRoundTrip.rlcB : EncodingRoundTrip.Statement .rlcB := fun _ _ => rfl
theorem EncodingRoundTrip.rlcC : EncodingRoundTrip.Statement .rlcC := fun _ _ => rfl
theorem EncodingRoundTrip.rlcD : EncodingRoundTrip.Statement .rlcD := fun _ _ => rfl
theorem EncodingRoundTrip.rlcE : EncodingRoundTrip.Statement .rlcE := fun _ _ => rfl
theorem EncodingRoundTrip.rlcH : EncodingRoundTrip.Statement .rlcH := fun _ _ => rfl
theorem EncodingRoundTrip.rlcL : EncodingRoundTrip.Statement .rlcL := fun _ _ => rfl
theorem EncodingRoundTrip.rlcIndHL : EncodingRoundTrip.Statement .rlcIndHL := fun _ _ => rfl
theorem EncodingRoundTrip.rlcA : EncodingRoundTrip.Statement .rlcA := fun _ _ => rfl
theorem EncodingRoundTrip.rrcB : EncodingRoundTrip.Statement .rrcB := fun _ _ => rfl
theorem EncodingRoundTrip.rrcC : EncodingRoundTrip.Statement .rrcC := fun _ _ => rfl
theorem EncodingRoundTrip.rrcD : EncodingRoundTrip.Statement .rrcD := fun _ _ => rfl
theorem EncodingRoundTrip.rrcE : EncodingRoundTrip.Statement .rrcE := fun _ _ => rfl
theorem EncodingRoundTrip.rrcH : EncodingRoundTrip.Statement .rrcH := fun _ _ => rfl
theorem EncodingRoundTrip.rrcL : EncodingRoundTrip.Statement .rrcL := fun _ _ => rfl
theorem EncodingRoundTrip.rrcIndHL : EncodingRoundTrip.Statement .rrcIndHL := fun _ _ => rfl
theorem EncodingRoundTrip.rrcA : EncodingRoundTrip.Statement .rrcA := fun _ _ => rfl
theorem EncodingRoundTrip.rlB : EncodingRoundTrip.Statement .rlB := fun _ _ => rfl
theorem EncodingRoundTrip.rlC : EncodingRoundTrip.Statement .rlC := fun _ _ => rfl
theorem EncodingRoundTrip.rlD : EncodingRoundTrip.Statement .rlD := fun _ _ => rfl
theorem EncodingRoundTrip.rlE : EncodingRoundTrip.Statement .rlE := fun _ _ => rfl
theorem EncodingRoundTrip.rlH : EncodingRoundTrip.Statement .rlH := fun _ _ => rfl
theorem EncodingRoundTrip.rlL : EncodingRoundTrip.Statement .rlL := fun _ _ => rfl
theorem EncodingRoundTrip.rlIndHL : EncodingRoundTrip.Statement .rlIndHL := fun _ _ => rfl
theorem EncodingRoundTrip.rlA : EncodingRoundTrip.Statement .rlA := fun _ _ => rfl
theorem EncodingRoundTrip.rrB : EncodingRoundTrip.Statement .rrB := fun _ _ => rfl
theorem EncodingRoundTrip.rrC : EncodingRoundTrip.Statement .rrC := fun _ _ => rfl
theorem EncodingRoundTrip.rrD : EncodingRoundTrip.Statement .rrD := fun _ _ => rfl
theorem EncodingRoundTrip.rrE : EncodingRoundTrip.Statement .rrE := fun _ _ => rfl
theorem EncodingRoundTrip.rrH : EncodingRoundTrip.Statement .rrH := fun _ _ => rfl
theorem EncodingRoundTrip.rrL : EncodingRoundTrip.Statement .rrL := fun _ _ => rfl
theorem EncodingRoundTrip.rrIndHL : EncodingRoundTrip.Statement .rrIndHL := fun _ _ => rfl
theorem EncodingRoundTrip.rrA : EncodingRoundTrip.Statement .rrA := fun _ _ => rfl
theorem EncodingRoundTrip.slaB : EncodingRoundTrip.Statement .slaB := fun _ _ => rfl
theorem EncodingRoundTrip.slaC : EncodingRoundTrip.Statement .slaC := fun _ _ => rfl
theorem EncodingRoundTrip.slaD : EncodingRoundTrip.Statement .slaD := fun _ _ => rfl
theorem EncodingRoundTrip.slaE : EncodingRoundTrip.Statement .slaE := fun _ _ => rfl
theorem EncodingRoundTrip.slaH : EncodingRoundTrip.Statement .slaH := fun _ _ => rfl
theorem EncodingRoundTrip.slaL : EncodingRoundTrip.Statement .slaL := fun _ _ => rfl
theorem EncodingRoundTrip.slaIndHL : EncodingRoundTrip.Statement .slaIndHL := fun _ _ => rfl
theorem EncodingRoundTrip.slaA : EncodingRoundTrip.Statement .slaA := fun _ _ => rfl
theorem EncodingRoundTrip.sraB : EncodingRoundTrip.Statement .sraB := fun _ _ => rfl
theorem EncodingRoundTrip.sraC : EncodingRoundTrip.Statement .sraC := fun _ _ => rfl
theorem EncodingRoundTrip.sraD : EncodingRoundTrip.Statement .sraD := fun _ _ => rfl
theorem EncodingRoundTrip.sraE : EncodingRoundTrip.Statement .sraE := fun _ _ => rfl
theorem EncodingRoundTrip.sraH : EncodingRoundTrip.Statement .sraH := fun _ _ => rfl
theorem EncodingRoundTrip.sraL : EncodingRoundTrip.Statement .sraL := fun _ _ => rfl
theorem EncodingRoundTrip.sraIndHL : EncodingRoundTrip.Statement .sraIndHL := fun _ _ => rfl
theorem EncodingRoundTrip.sraA : EncodingRoundTrip.Statement .sraA := fun _ _ => rfl
theorem EncodingRoundTrip.swapB : EncodingRoundTrip.Statement .swapB := fun _ _ => rfl
theorem EncodingRoundTrip.swapC : EncodingRoundTrip.Statement .swapC := fun _ _ => rfl
theorem EncodingRoundTrip.swapD : EncodingRoundTrip.Statement .swapD := fun _ _ => rfl
theorem EncodingRoundTrip.swapE : EncodingRoundTrip.Statement .swapE := fun _ _ => rfl
theorem EncodingRoundTrip.swapH : EncodingRoundTrip.Statement .swapH := fun _ _ => rfl
theorem EncodingRoundTrip.swapL : EncodingRoundTrip.Statement .swapL := fun _ _ => rfl
theorem EncodingRoundTrip.swapIndHL : EncodingRoundTrip.Statement .swapIndHL := fun _ _ => rfl
theorem EncodingRoundTrip.swapA : EncodingRoundTrip.Statement .swapA := fun _ _ => rfl
theorem EncodingRoundTrip.srlB : EncodingRoundTrip.Statement .srlB := fun _ _ => rfl
theorem EncodingRoundTrip.srlC : EncodingRoundTrip.Statement .srlC := fun _ _ => rfl
theorem EncodingRoundTrip.srlD : EncodingRoundTrip.Statement .srlD := fun _ _ => rfl
theorem EncodingRoundTrip.srlE : EncodingRoundTrip.Statement .srlE := fun _ _ => rfl
theorem EncodingRoundTrip.srlH : EncodingRoundTrip.Statement .srlH := fun _ _ => rfl
theorem EncodingRoundTrip.srlL : EncodingRoundTrip.Statement .srlL := fun _ _ => rfl
theorem EncodingRoundTrip.srlIndHL : EncodingRoundTrip.Statement .srlIndHL := fun _ _ => rfl
theorem EncodingRoundTrip.srlA : EncodingRoundTrip.Statement .srlA := fun _ _ => rfl
theorem EncodingRoundTrip.bit0B : EncodingRoundTrip.Statement .bit0B := fun _ _ => rfl
theorem EncodingRoundTrip.bit0C : EncodingRoundTrip.Statement .bit0C := fun _ _ => rfl
theorem EncodingRoundTrip.bit0D : EncodingRoundTrip.Statement .bit0D := fun _ _ => rfl
theorem EncodingRoundTrip.bit0E : EncodingRoundTrip.Statement .bit0E := fun _ _ => rfl
theorem EncodingRoundTrip.bit0H : EncodingRoundTrip.Statement .bit0H := fun _ _ => rfl
theorem EncodingRoundTrip.bit0L : EncodingRoundTrip.Statement .bit0L := fun _ _ => rfl
theorem EncodingRoundTrip.bit0IndHL : EncodingRoundTrip.Statement .bit0IndHL := fun _ _ => rfl
theorem EncodingRoundTrip.bit0A : EncodingRoundTrip.Statement .bit0A := fun _ _ => rfl
theorem EncodingRoundTrip.bit1B : EncodingRoundTrip.Statement .bit1B := fun _ _ => rfl
theorem EncodingRoundTrip.bit1C : EncodingRoundTrip.Statement .bit1C := fun _ _ => rfl
theorem EncodingRoundTrip.bit1D : EncodingRoundTrip.Statement .bit1D := fun _ _ => rfl
theorem EncodingRoundTrip.bit1E : EncodingRoundTrip.Statement .bit1E := fun _ _ => rfl
theorem EncodingRoundTrip.bit1H : EncodingRoundTrip.Statement .bit1H := fun _ _ => rfl
theorem EncodingRoundTrip.bit1L : EncodingRoundTrip.Statement .bit1L := fun _ _ => rfl
theorem EncodingRoundTrip.bit1IndHL : EncodingRoundTrip.Statement .bit1IndHL := fun _ _ => rfl
theorem EncodingRoundTrip.bit1A : EncodingRoundTrip.Statement .bit1A := fun _ _ => rfl
theorem EncodingRoundTrip.bit2B : EncodingRoundTrip.Statement .bit2B := fun _ _ => rfl
theorem EncodingRoundTrip.bit2C : EncodingRoundTrip.Statement .bit2C := fun _ _ => rfl
theorem EncodingRoundTrip.bit2D : EncodingRoundTrip.Statement .bit2D := fun _ _ => rfl
theorem EncodingRoundTrip.bit2E : EncodingRoundTrip.Statement .bit2E := fun _ _ => rfl
theorem EncodingRoundTrip.bit2H : EncodingRoundTrip.Statement .bit2H := fun _ _ => rfl
theorem EncodingRoundTrip.bit2L : EncodingRoundTrip.Statement .bit2L := fun _ _ => rfl
theorem EncodingRoundTrip.bit2IndHL : EncodingRoundTrip.Statement .bit2IndHL := fun _ _ => rfl
theorem EncodingRoundTrip.bit2A : EncodingRoundTrip.Statement .bit2A := fun _ _ => rfl
theorem EncodingRoundTrip.bit3B : EncodingRoundTrip.Statement .bit3B := fun _ _ => rfl
theorem EncodingRoundTrip.bit3C : EncodingRoundTrip.Statement .bit3C := fun _ _ => rfl
theorem EncodingRoundTrip.bit3D : EncodingRoundTrip.Statement .bit3D := fun _ _ => rfl
theorem EncodingRoundTrip.bit3E : EncodingRoundTrip.Statement .bit3E := fun _ _ => rfl
theorem EncodingRoundTrip.bit3H : EncodingRoundTrip.Statement .bit3H := fun _ _ => rfl
theorem EncodingRoundTrip.bit3L : EncodingRoundTrip.Statement .bit3L := fun _ _ => rfl
theorem EncodingRoundTrip.bit3IndHL : EncodingRoundTrip.Statement .bit3IndHL := fun _ _ => rfl
theorem EncodingRoundTrip.bit3A : EncodingRoundTrip.Statement .bit3A := fun _ _ => rfl
theorem EncodingRoundTrip.bit4B : EncodingRoundTrip.Statement .bit4B := fun _ _ => rfl
theorem EncodingRoundTrip.bit4C : EncodingRoundTrip.Statement .bit4C := fun _ _ => rfl
theorem EncodingRoundTrip.bit4D : EncodingRoundTrip.Statement .bit4D := fun _ _ => rfl
theorem EncodingRoundTrip.bit4E : EncodingRoundTrip.Statement .bit4E := fun _ _ => rfl
theorem EncodingRoundTrip.bit4H : EncodingRoundTrip.Statement .bit4H := fun _ _ => rfl
theorem EncodingRoundTrip.bit4L : EncodingRoundTrip.Statement .bit4L := fun _ _ => rfl
theorem EncodingRoundTrip.bit4IndHL : EncodingRoundTrip.Statement .bit4IndHL := fun _ _ => rfl
theorem EncodingRoundTrip.bit4A : EncodingRoundTrip.Statement .bit4A := fun _ _ => rfl
theorem EncodingRoundTrip.bit5B : EncodingRoundTrip.Statement .bit5B := fun _ _ => rfl
theorem EncodingRoundTrip.bit5C : EncodingRoundTrip.Statement .bit5C := fun _ _ => rfl
theorem EncodingRoundTrip.bit5D : EncodingRoundTrip.Statement .bit5D := fun _ _ => rfl
theorem EncodingRoundTrip.bit5E : EncodingRoundTrip.Statement .bit5E := fun _ _ => rfl
theorem EncodingRoundTrip.bit5H : EncodingRoundTrip.Statement .bit5H := fun _ _ => rfl
theorem EncodingRoundTrip.bit5L : EncodingRoundTrip.Statement .bit5L := fun _ _ => rfl
theorem EncodingRoundTrip.bit5IndHL : EncodingRoundTrip.Statement .bit5IndHL := fun _ _ => rfl
theorem EncodingRoundTrip.bit5A : EncodingRoundTrip.Statement .bit5A := fun _ _ => rfl
theorem EncodingRoundTrip.bit6B : EncodingRoundTrip.Statement .bit6B := fun _ _ => rfl
theorem EncodingRoundTrip.bit6C : EncodingRoundTrip.Statement .bit6C := fun _ _ => rfl
theorem EncodingRoundTrip.bit6D : EncodingRoundTrip.Statement .bit6D := fun _ _ => rfl
theorem EncodingRoundTrip.bit6E : EncodingRoundTrip.Statement .bit6E := fun _ _ => rfl
theorem EncodingRoundTrip.bit6H : EncodingRoundTrip.Statement .bit6H := fun _ _ => rfl
theorem EncodingRoundTrip.bit6L : EncodingRoundTrip.Statement .bit6L := fun _ _ => rfl
theorem EncodingRoundTrip.bit6IndHL : EncodingRoundTrip.Statement .bit6IndHL := fun _ _ => rfl
theorem EncodingRoundTrip.bit6A : EncodingRoundTrip.Statement .bit6A := fun _ _ => rfl
theorem EncodingRoundTrip.bit7B : EncodingRoundTrip.Statement .bit7B := fun _ _ => rfl
theorem EncodingRoundTrip.bit7C : EncodingRoundTrip.Statement .bit7C := fun _ _ => rfl
theorem EncodingRoundTrip.bit7D : EncodingRoundTrip.Statement .bit7D := fun _ _ => rfl
theorem EncodingRoundTrip.bit7E : EncodingRoundTrip.Statement .bit7E := fun _ _ => rfl
theorem EncodingRoundTrip.bit7H : EncodingRoundTrip.Statement .bit7H := fun _ _ => rfl
theorem EncodingRoundTrip.bit7L : EncodingRoundTrip.Statement .bit7L := fun _ _ => rfl
theorem EncodingRoundTrip.bit7IndHL : EncodingRoundTrip.Statement .bit7IndHL := fun _ _ => rfl
theorem EncodingRoundTrip.bit7A : EncodingRoundTrip.Statement .bit7A := fun _ _ => rfl
theorem EncodingRoundTrip.res0B : EncodingRoundTrip.Statement .res0B := fun _ _ => rfl
theorem EncodingRoundTrip.res0C : EncodingRoundTrip.Statement .res0C := fun _ _ => rfl
theorem EncodingRoundTrip.res0D : EncodingRoundTrip.Statement .res0D := fun _ _ => rfl
theorem EncodingRoundTrip.res0E : EncodingRoundTrip.Statement .res0E := fun _ _ => rfl
theorem EncodingRoundTrip.res0H : EncodingRoundTrip.Statement .res0H := fun _ _ => rfl
theorem EncodingRoundTrip.res0L : EncodingRoundTrip.Statement .res0L := fun _ _ => rfl
theorem EncodingRoundTrip.res0IndHL : EncodingRoundTrip.Statement .res0IndHL := fun _ _ => rfl
theorem EncodingRoundTrip.res0A : EncodingRoundTrip.Statement .res0A := fun _ _ => rfl
theorem EncodingRoundTrip.res1B : EncodingRoundTrip.Statement .res1B := fun _ _ => rfl
theorem EncodingRoundTrip.res1C : EncodingRoundTrip.Statement .res1C := fun _ _ => rfl
theorem EncodingRoundTrip.res1D : EncodingRoundTrip.Statement .res1D := fun _ _ => rfl
theorem EncodingRoundTrip.res1E : EncodingRoundTrip.Statement .res1E := fun _ _ => rfl
theorem EncodingRoundTrip.res1H : EncodingRoundTrip.Statement .res1H := fun _ _ => rfl
theorem EncodingRoundTrip.res1L : EncodingRoundTrip.Statement .res1L := fun _ _ => rfl
theorem EncodingRoundTrip.res1IndHL : EncodingRoundTrip.Statement .res1IndHL := fun _ _ => rfl
theorem EncodingRoundTrip.res1A : EncodingRoundTrip.Statement .res1A := fun _ _ => rfl
theorem EncodingRoundTrip.res2B : EncodingRoundTrip.Statement .res2B := fun _ _ => rfl
theorem EncodingRoundTrip.res2C : EncodingRoundTrip.Statement .res2C := fun _ _ => rfl
theorem EncodingRoundTrip.res2D : EncodingRoundTrip.Statement .res2D := fun _ _ => rfl
theorem EncodingRoundTrip.res2E : EncodingRoundTrip.Statement .res2E := fun _ _ => rfl
theorem EncodingRoundTrip.res2H : EncodingRoundTrip.Statement .res2H := fun _ _ => rfl
theorem EncodingRoundTrip.res2L : EncodingRoundTrip.Statement .res2L := fun _ _ => rfl
theorem EncodingRoundTrip.res2IndHL : EncodingRoundTrip.Statement .res2IndHL := fun _ _ => rfl
theorem EncodingRoundTrip.res2A : EncodingRoundTrip.Statement .res2A := fun _ _ => rfl
theorem EncodingRoundTrip.res3B : EncodingRoundTrip.Statement .res3B := fun _ _ => rfl
theorem EncodingRoundTrip.res3C : EncodingRoundTrip.Statement .res3C := fun _ _ => rfl
theorem EncodingRoundTrip.res3D : EncodingRoundTrip.Statement .res3D := fun _ _ => rfl
theorem EncodingRoundTrip.res3E : EncodingRoundTrip.Statement .res3E := fun _ _ => rfl
theorem EncodingRoundTrip.res3H : EncodingRoundTrip.Statement .res3H := fun _ _ => rfl
theorem EncodingRoundTrip.res3L : EncodingRoundTrip.Statement .res3L := fun _ _ => rfl
theorem EncodingRoundTrip.res3IndHL : EncodingRoundTrip.Statement .res3IndHL := fun _ _ => rfl
theorem EncodingRoundTrip.res3A : EncodingRoundTrip.Statement .res3A := fun _ _ => rfl
theorem EncodingRoundTrip.res4B : EncodingRoundTrip.Statement .res4B := fun _ _ => rfl
theorem EncodingRoundTrip.res4C : EncodingRoundTrip.Statement .res4C := fun _ _ => rfl
theorem EncodingRoundTrip.res4D : EncodingRoundTrip.Statement .res4D := fun _ _ => rfl
theorem EncodingRoundTrip.res4E : EncodingRoundTrip.Statement .res4E := fun _ _ => rfl
theorem EncodingRoundTrip.res4H : EncodingRoundTrip.Statement .res4H := fun _ _ => rfl
theorem EncodingRoundTrip.res4L : EncodingRoundTrip.Statement .res4L := fun _ _ => rfl
theorem EncodingRoundTrip.res4IndHL : EncodingRoundTrip.Statement .res4IndHL := fun _ _ => rfl
theorem EncodingRoundTrip.res4A : EncodingRoundTrip.Statement .res4A := fun _ _ => rfl
theorem EncodingRoundTrip.res5B : EncodingRoundTrip.Statement .res5B := fun _ _ => rfl
theorem EncodingRoundTrip.res5C : EncodingRoundTrip.Statement .res5C := fun _ _ => rfl
theorem EncodingRoundTrip.res5D : EncodingRoundTrip.Statement .res5D := fun _ _ => rfl
theorem EncodingRoundTrip.res5E : EncodingRoundTrip.Statement .res5E := fun _ _ => rfl
theorem EncodingRoundTrip.res5H : EncodingRoundTrip.Statement .res5H := fun _ _ => rfl
theorem EncodingRoundTrip.res5L : EncodingRoundTrip.Statement .res5L := fun _ _ => rfl
theorem EncodingRoundTrip.res5IndHL : EncodingRoundTrip.Statement .res5IndHL := fun _ _ => rfl
theorem EncodingRoundTrip.res5A : EncodingRoundTrip.Statement .res5A := fun _ _ => rfl
theorem EncodingRoundTrip.res6B : EncodingRoundTrip.Statement .res6B := fun _ _ => rfl
theorem EncodingRoundTrip.res6C : EncodingRoundTrip.Statement .res6C := fun _ _ => rfl
theorem EncodingRoundTrip.res6D : EncodingRoundTrip.Statement .res6D := fun _ _ => rfl
theorem EncodingRoundTrip.res6E : EncodingRoundTrip.Statement .res6E := fun _ _ => rfl
theorem EncodingRoundTrip.res6H : EncodingRoundTrip.Statement .res6H := fun _ _ => rfl
theorem EncodingRoundTrip.res6L : EncodingRoundTrip.Statement .res6L := fun _ _ => rfl
theorem EncodingRoundTrip.res6IndHL : EncodingRoundTrip.Statement .res6IndHL := fun _ _ => rfl
theorem EncodingRoundTrip.res6A : EncodingRoundTrip.Statement .res6A := fun _ _ => rfl
theorem EncodingRoundTrip.res7B : EncodingRoundTrip.Statement .res7B := fun _ _ => rfl
theorem EncodingRoundTrip.res7C : EncodingRoundTrip.Statement .res7C := fun _ _ => rfl
theorem EncodingRoundTrip.res7D : EncodingRoundTrip.Statement .res7D := fun _ _ => rfl
theorem EncodingRoundTrip.res7E : EncodingRoundTrip.Statement .res7E := fun _ _ => rfl
theorem EncodingRoundTrip.res7H : EncodingRoundTrip.Statement .res7H := fun _ _ => rfl
theorem EncodingRoundTrip.res7L : EncodingRoundTrip.Statement .res7L := fun _ _ => rfl
theorem EncodingRoundTrip.res7IndHL : EncodingRoundTrip.Statement .res7IndHL := fun _ _ => rfl
theorem EncodingRoundTrip.res7A : EncodingRoundTrip.Statement .res7A := fun _ _ => rfl
theorem EncodingRoundTrip.set0B : EncodingRoundTrip.Statement .set0B := fun _ _ => rfl
theorem EncodingRoundTrip.set0C : EncodingRoundTrip.Statement .set0C := fun _ _ => rfl
theorem EncodingRoundTrip.set0D : EncodingRoundTrip.Statement .set0D := fun _ _ => rfl
theorem EncodingRoundTrip.set0E : EncodingRoundTrip.Statement .set0E := fun _ _ => rfl
theorem EncodingRoundTrip.set0H : EncodingRoundTrip.Statement .set0H := fun _ _ => rfl
theorem EncodingRoundTrip.set0L : EncodingRoundTrip.Statement .set0L := fun _ _ => rfl
theorem EncodingRoundTrip.set0IndHL : EncodingRoundTrip.Statement .set0IndHL := fun _ _ => rfl
theorem EncodingRoundTrip.set0A : EncodingRoundTrip.Statement .set0A := fun _ _ => rfl
theorem EncodingRoundTrip.set1B : EncodingRoundTrip.Statement .set1B := fun _ _ => rfl
theorem EncodingRoundTrip.set1C : EncodingRoundTrip.Statement .set1C := fun _ _ => rfl
theorem EncodingRoundTrip.set1D : EncodingRoundTrip.Statement .set1D := fun _ _ => rfl
theorem EncodingRoundTrip.set1E : EncodingRoundTrip.Statement .set1E := fun _ _ => rfl
theorem EncodingRoundTrip.set1H : EncodingRoundTrip.Statement .set1H := fun _ _ => rfl
theorem EncodingRoundTrip.set1L : EncodingRoundTrip.Statement .set1L := fun _ _ => rfl
theorem EncodingRoundTrip.set1IndHL : EncodingRoundTrip.Statement .set1IndHL := fun _ _ => rfl
theorem EncodingRoundTrip.set1A : EncodingRoundTrip.Statement .set1A := fun _ _ => rfl
theorem EncodingRoundTrip.set2B : EncodingRoundTrip.Statement .set2B := fun _ _ => rfl
theorem EncodingRoundTrip.set2C : EncodingRoundTrip.Statement .set2C := fun _ _ => rfl
theorem EncodingRoundTrip.set2D : EncodingRoundTrip.Statement .set2D := fun _ _ => rfl
theorem EncodingRoundTrip.set2E : EncodingRoundTrip.Statement .set2E := fun _ _ => rfl
theorem EncodingRoundTrip.set2H : EncodingRoundTrip.Statement .set2H := fun _ _ => rfl
theorem EncodingRoundTrip.set2L : EncodingRoundTrip.Statement .set2L := fun _ _ => rfl
theorem EncodingRoundTrip.set2IndHL : EncodingRoundTrip.Statement .set2IndHL := fun _ _ => rfl
theorem EncodingRoundTrip.set2A : EncodingRoundTrip.Statement .set2A := fun _ _ => rfl
theorem EncodingRoundTrip.set3B : EncodingRoundTrip.Statement .set3B := fun _ _ => rfl
theorem EncodingRoundTrip.set3C : EncodingRoundTrip.Statement .set3C := fun _ _ => rfl
theorem EncodingRoundTrip.set3D : EncodingRoundTrip.Statement .set3D := fun _ _ => rfl
theorem EncodingRoundTrip.set3E : EncodingRoundTrip.Statement .set3E := fun _ _ => rfl
theorem EncodingRoundTrip.set3H : EncodingRoundTrip.Statement .set3H := fun _ _ => rfl
theorem EncodingRoundTrip.set3L : EncodingRoundTrip.Statement .set3L := fun _ _ => rfl
theorem EncodingRoundTrip.set3IndHL : EncodingRoundTrip.Statement .set3IndHL := fun _ _ => rfl
theorem EncodingRoundTrip.set3A : EncodingRoundTrip.Statement .set3A := fun _ _ => rfl
theorem EncodingRoundTrip.set4B : EncodingRoundTrip.Statement .set4B := fun _ _ => rfl
theorem EncodingRoundTrip.set4C : EncodingRoundTrip.Statement .set4C := fun _ _ => rfl
theorem EncodingRoundTrip.set4D : EncodingRoundTrip.Statement .set4D := fun _ _ => rfl
theorem EncodingRoundTrip.set4E : EncodingRoundTrip.Statement .set4E := fun _ _ => rfl
theorem EncodingRoundTrip.set4H : EncodingRoundTrip.Statement .set4H := fun _ _ => rfl
theorem EncodingRoundTrip.set4L : EncodingRoundTrip.Statement .set4L := fun _ _ => rfl
theorem EncodingRoundTrip.set4IndHL : EncodingRoundTrip.Statement .set4IndHL := fun _ _ => rfl
theorem EncodingRoundTrip.set4A : EncodingRoundTrip.Statement .set4A := fun _ _ => rfl
theorem EncodingRoundTrip.set5B : EncodingRoundTrip.Statement .set5B := fun _ _ => rfl
theorem EncodingRoundTrip.set5C : EncodingRoundTrip.Statement .set5C := fun _ _ => rfl
theorem EncodingRoundTrip.set5D : EncodingRoundTrip.Statement .set5D := fun _ _ => rfl
theorem EncodingRoundTrip.set5E : EncodingRoundTrip.Statement .set5E := fun _ _ => rfl
theorem EncodingRoundTrip.set5H : EncodingRoundTrip.Statement .set5H := fun _ _ => rfl
theorem EncodingRoundTrip.set5L : EncodingRoundTrip.Statement .set5L := fun _ _ => rfl
theorem EncodingRoundTrip.set5IndHL : EncodingRoundTrip.Statement .set5IndHL := fun _ _ => rfl
theorem EncodingRoundTrip.set5A : EncodingRoundTrip.Statement .set5A := fun _ _ => rfl
theorem EncodingRoundTrip.set6B : EncodingRoundTrip.Statement .set6B := fun _ _ => rfl
theorem EncodingRoundTrip.set6C : EncodingRoundTrip.Statement .set6C := fun _ _ => rfl
theorem EncodingRoundTrip.set6D : EncodingRoundTrip.Statement .set6D := fun _ _ => rfl
theorem EncodingRoundTrip.set6E : EncodingRoundTrip.Statement .set6E := fun _ _ => rfl
theorem EncodingRoundTrip.set6H : EncodingRoundTrip.Statement .set6H := fun _ _ => rfl
theorem EncodingRoundTrip.set6L : EncodingRoundTrip.Statement .set6L := fun _ _ => rfl
theorem EncodingRoundTrip.set6IndHL : EncodingRoundTrip.Statement .set6IndHL := fun _ _ => rfl
theorem EncodingRoundTrip.set6A : EncodingRoundTrip.Statement .set6A := fun _ _ => rfl
theorem EncodingRoundTrip.set7B : EncodingRoundTrip.Statement .set7B := fun _ _ => rfl
theorem EncodingRoundTrip.set7C : EncodingRoundTrip.Statement .set7C := fun _ _ => rfl
theorem EncodingRoundTrip.set7D : EncodingRoundTrip.Statement .set7D := fun _ _ => rfl
theorem EncodingRoundTrip.set7E : EncodingRoundTrip.Statement .set7E := fun _ _ => rfl
theorem EncodingRoundTrip.set7H : EncodingRoundTrip.Statement .set7H := fun _ _ => rfl
theorem EncodingRoundTrip.set7L : EncodingRoundTrip.Statement .set7L := fun _ _ => rfl
theorem EncodingRoundTrip.set7IndHL : EncodingRoundTrip.Statement .set7IndHL := fun _ _ => rfl
theorem EncodingRoundTrip.set7A : EncodingRoundTrip.Statement .set7A := fun _ _ => rfl

end Sys2Proof.Laws
end

