-- ==== Sys2Proof/Tests/Slice0.lean ====
section
/-! SUPPORT. The model's own tests: the well-formedness check, words decoded as the spec's encodings give them, vectors of 95_test_vectors.md, and for each statement of Certificates/Slice0/Obligations.lean that has hypotheses a state that meets them. -/

open Sys2Proof Sys2Proof.Machine

namespace Sys2Proof.Tests

/-! ### Well-formedness -/

/-- The prefix row with any second byte is not a well-formed term: its words are the CB row's. -/
theorem test_ill_formed_prefix : (Instr.cbPrefix 0x00).wellFormed = false := by decide

/-- Every other instruction is well formed. -/
theorem test_well_formed : (Instr.bit7H).wellFormed = true ∧ (Instr.ldAD8 0x42).wellFormed = true := by
  decide

/-! ### Words written out from the encodings of 30_encoding.md, with the rule of each instruction -/

/-- `01dddsss`, d = 4 (H), s = 1 (C): R221. -/
theorem test_decode_ld_h_c : decode [0b01100001, 0, 0] = .ok (.ldHC, [0, 0]) := by decide
/-- `01ddd110`, d = 7 (A): R222. -/
theorem test_decode_ld_a_indHL : decode [0b01111110, 0, 0] = .ok (.ldAIndHL, [0, 0]) := by decide
/-- `00ddd110 nnnnnnnn`, d = 3 (E): R224. -/
theorem test_decode_ld_e_d8 : decode [0b00011110, 0x7F, 0] = .ok (.ldED8 0x7F, [0]) := by decide
/-- `00pp0001 mm hh`, p = 3 (SP), low byte first: R240. -/
theorem test_decode_ld_sp_d16 : decode [0b00110001, 0xFF, 0xDF] = .ok (.ldSPD16 0xDFFF, []) := by decide
/-- `11pp0101`, p = 3 (AF): R243. -/
theorem test_decode_push_af : decode [0b11110101, 0, 0] = .ok (.pushAF, [0, 0]) := by decide
/-- `10011sss`, s = 5 (L): R273. -/
theorem test_decode_sbc_a_l : decode [0b10011101, 0, 0] = .ok (.sbcAL, [0, 0]) := by decide
/-- `00ddd101`, d = 0 (B): R290. -/
theorem test_decode_dec_b : decode [0b00000101, 0, 0] = .ok (.decB, [0, 0]) := by decide
/-- `00pp1001`, p = 1 (DE): R321. -/
theorem test_decode_add_hl_de : decode [0b00011001, 0, 0] = .ok (.addHLDE, [0, 0]) := by decide
/-- `11101000 eeeeeeee`: R324. -/
theorem test_decode_add_sp_e8 : decode [0b11101000, 0x80, 0] = .ok (.addSPE8 0x80, [0]) := by decide
/-- `CB 00kkkrrr`, k = 6 (SWAP), r = 2 (D): R357. -/
theorem test_decode_swap_d : decode [0xCB, 0b00110010, 0] = .ok (.swapD, [0]) := by decide
/-- `CB 11bbbrrr`, b = 5, r = 6 ((HL)): R366. -/
theorem test_decode_set_5_indHL : decode [0xCB, 0b11101110, 0] = .ok (.set5IndHL, [0]) := by decide
/-- `110cc010 mm hh`, cc = 2 (NC): R382. -/
theorem test_decode_jp_nc : decode [0b11010010, 0x34, 0x12] = .ok (.jpNCA16 0x1234, []) := by decide
/-- `001cc000 ee`, cc = 1 (Z): R385. -/
theorem test_decode_jr_z : decode [0b00101000, 0xFC, 0] = .ok (.jrZE8 0xFC, [0]) := by decide
/-- `11ttt111`, t = 2: R391. -/
theorem test_decode_rst_10 : decode [0b11010111, 0, 0] = .ok (.rst10, [0, 0]) := by decide
/-- 0x10 and a second byte of any value: R404. -/
theorem test_decode_stop : decode [0b00010000, 0xAA, 0] = .ok (.stop 0xAA, [0]) := by decide
/-- An undefined opcode is an instruction of its own: R407. -/
theorem test_decode_undefined : decode [0b11100100, 0, 0] = .ok (.illegalE4, [0, 0]) := by decide
/-- Too few bytes are rejected by name. -/
theorem test_decode_short : decode [0xC3, 0x00] = .error (.missingOperand 0xC3) := by decide
/-- A table word of a 3-byte row: the opcode in bits 7 to 0. -/
theorem test_table_word : decodeTableWord 24 0x1234CD = some (.callA16 0x1234) := by decide

/-! ### Vectors of 95_test_vectors.md -/

/-- The base state of 95_test_vectors.md: reset with IF = 00 and LCDC = 00, the instruction's bytes at
0x0100, and the bytes the vector lists in memory. -/
def base (prog : List Byte) (cells : List (Word × Byte) := []) : State :=
  let s :=
    { State.reset with
      irq := { ie := 0, ifr := 0 }, lcd := { State.reset.lcd with lcdc := 0 } }
  cells.foldl (fun s p => placeByte s p.1 p.2) (placeBytes s 0x100 prog)

/-- Set F. -/
def withF (s : State) (f : Byte) : State := s.setFlags (Flags.ofByte f)

/-- Whether a CPU step answers a next state of which `p` holds. -/
def after (s : State) (p : State → Bool) : Bool :=
  match cpuStep s with
  | .next t => p t
  | _ => false

/-- L4 (R222). -/
theorem test_L4 :
    (let s := base [0x66] [(0xC000, 0x99)]
     let s := s.setPair .hl 0xC000
     after s fun t => decide (t.regs.h = 0x99 ∧ t.regs.l = 0x00 ∧ t.out.cycles = 8)) = true := by decide

/-- L6 (R223). -/
theorem test_L6 :
    (let s := base [0x74]
     let s := s.setPair .hl 0xC123
     after s fun t => decide (memRead t 0xC123 = 0xC1)) = true := by decide

/-- L8 (R225). -/
theorem test_L8 :
    (let s := base [0x36, 0x99]
     let s := s.setPair .hl 0xC010
     after s fun t => decide (memRead t 0xC010 = 0x99 ∧ t.regs.pc = 0x0102
        ∧ t.out.cycles = 12)) = true := by decide

/-- L9 (R226). -/
theorem test_L9 :
    (let s := base [0x0A] [(0xC100, 0x01)]
     let s := s.setPair .bc 0xC100
     after s fun t => decide (t.regs.a = 0x01 ∧ t.out.cycles = 8)) = true := by decide

/-- L12 (R229). -/
theorem test_L12 :
    (let s := base [0x12]
     let s := s.setPair .de 0xC201
     let s := s.setReg .a 0x3D
     after s fun t => decide (memRead t 0xC201 = 0x3D ∧ t.out.cycles = 8)) = true := by decide

/-- L14 (R230). -/
theorem test_L14 :
    (let s := base [0x2A] [(0xFFFF, 0x1F)]
     let s := s.setPair .hl 0xFFFF
     after s fun t => decide (t.regs.a = 0x1F ∧ t.pair .hl = 0x0000)) = true := by decide

/-- L15 (R231). -/
theorem test_L15 :
    (let s := base [0x3A] [(0xC000, 0xCD)]
     let s := s.setPair .hl 0xC000
     after s fun t => decide (t.regs.a = 0xCD ∧ t.pair .hl = 0xBFFF ∧ t.out.cycles = 8)) = true := by decide

/-- L16 (R232). -/
theorem test_L16 :
    (let s := base [0x22]
     let s := s.setPair .hl 0xC000
     let s := s.setReg .a 0x11
     after s fun t => decide (memRead t 0xC000 = 0x11 ∧ t.pair .hl = 0xC001
        ∧ t.out.cycles = 8)) = true := by decide

/-- L17 (R233). -/
theorem test_L17 :
    (let s := base [0x32]
     let s := s.setPair .hl 0xC000
     let s := s.setReg .a 0x22
     after s fun t => decide (memRead t 0xC000 = 0x22 ∧ t.pair .hl = 0xBFFF
        ∧ t.out.cycles = 8)) = true := by decide

/-- L18 (R234). -/
theorem test_L18 :
    (let s := base [0xFA, 0x45, 0xC3] [(0xC345, 0x66)]
     after s fun t => decide (t.regs.a = 0x66 ∧ t.regs.pc = 0x0103 ∧ t.out.cycles = 16)) = true := by decide

/-- L19 (R235). -/
theorem test_L19 :
    (let s := base [0xEA, 0x45, 0xC3]
     let s := s.setReg .a 0x88
     after s fun t => decide (memRead t 0xC345 = 0x88 ∧ t.regs.pc = 0x0103
        ∧ t.out.cycles = 16)) = true := by decide

/-- L20 (R236). -/
theorem test_L20 :
    (let s := base [0xF0, 0x80] [(0xFF80, 0x42)]
     after s fun t => decide (t.regs.a = 0x42 ∧ t.regs.pc = 0x0102 ∧ t.out.cycles = 12)) = true := by decide

/-- L21 (R237). -/
theorem test_L21 :
    (let s := base [0xE0, 0x81]
     let s := s.setReg .a 0x42
     after s fun t => decide (memRead t 0xFF81 = 0x42 ∧ t.out.cycles = 12)) = true := by decide

/-- L22 (R238). -/
theorem test_L22 :
    (let s := base [0xF2] [(0xFF82, 0x07)]
     let s := s.setReg .c 0x82
     after s fun t => decide (t.regs.a = 0x07 ∧ t.regs.pc = 0x0101 ∧ t.out.cycles = 8)) = true := by decide

/-- L23 (R239). -/
theorem test_L23 :
    (let s := base [0xE2]
     let s := s.setReg .c 0x83
     let s := s.setReg .a 0x09
     after s fun t => decide (memRead t 0xFF83 = 0x09 ∧ t.out.cycles = 8)) = true := by decide

/-- L25 (R240). -/
theorem test_L25 :
    (let s := base [0x01, 0x34, 0x12]
     after s fun t => decide (t.pair .bc = 0x1234 ∧ t.regs.pc = 0x0103)) = true := by decide

/-- L26 (R241). -/
theorem test_L26 :
    (let s := base [0x08, 0x00, 0xC1]
     let s := s.setPair .sp 0xFFF8
     after s fun t => decide (memRead t 0xC100 = 0xF8 ∧ memRead t 0xC101 = 0xFF
        ∧ t.regs.pc = 0x0103 ∧ t.out.cycles = 20)) = true := by decide

/-- L27 (R242). -/
theorem test_L27 :
    (let s := base [0xF9]
     let s := s.setPair .hl 0xD000
     after s fun t => decide (t.pair .sp = 0xD000 ∧ t.out.cycles = 8)) = true := by decide

/-- L28 (R243). -/
theorem test_L28 :
    (let s := base [0xC5]
     let s := s.setPair .sp 0xFFFE
     let s := s.setPair .bc 0x1234
     after s fun t => decide (t.pair .sp = 0xFFFC ∧ memRead t 0xFFFD = 0x12
        ∧ memRead t 0xFFFC = 0x34 ∧ t.out.cycles = 16)) = true := by decide

/-- L30 (R244). -/
theorem test_L30 :
    (let s := base [0xF1] [(0xFFFC, 0xFF), (0xFFFD, 0x12)]
     let s := s.setPair .sp 0xFFFC
     after s fun t => decide (t.regs.a = 0x12 ∧ t.regs.flags.toByte = 0xF0
        ∧ t.pair .sp = 0xFFFE)) = true := by decide

/-- L31 (R243). -/
theorem test_L31 :
    (let s := base [0xF5]
     let s := s.setPair .sp 0xFFFE
     let s := s.setReg .a 0x12
     let s := withF s 0x50
     after s fun t => decide (memRead t 0xFFFD = 0x12 ∧ memRead t 0xFFFC = 0x50
        ∧ t.pair .sp = 0xFFFC)) = true := by decide

/-- L32 (R243). -/
theorem test_L32 :
    (let s := base [0xC5]
     let s := s.setPair .sp 0x0001
     let s := s.setPair .bc 0xABCD
     after s fun t => decide (t.pair .sp = 0xFFFF ∧ memRead t 0x0000 = 0x00
        ∧ memRead t 0xFFFF = 0xCD)) = true := by decide

/-- A1 (R264). -/
theorem test_A1 :
    (let s := base [0x80]
     let s := s.setReg .a 0x3A
     let s := s.setReg .b 0xC6
     after s fun t => decide (t.regs.a = 0x00 ∧ t.regs.flags.toByte = 0xB0
        ∧ t.out.cycles = 4)) = true := by decide

/-- A6 (R267). -/
theorem test_A6 :
    (let s := base [0x88]
     let s := s.setReg .a 0xFF
     let s := s.setReg .b 0x00
     let s := withF s 0x10
     after s fun t => decide (t.regs.a = 0x00 ∧ t.regs.flags.toByte = 0xB0)) = true := by decide

/-- A7 (R268). -/
theorem test_A7 :
    (let s := base [0x8E] [(0xC000, 0x1E)]
     let s := s.setReg .a 0xE1
     let s := s.setPair .hl 0xC000
     let s := withF s 0x10
     after s fun t => decide (t.regs.a = 0x00 ∧ t.regs.flags.toByte = 0xB0
        ∧ t.out.cycles = 8)) = true := by decide

/-- A8 (R269). -/
theorem test_A8 :
    (let s := base [0xCE, 0x3B]
     let s := s.setReg .a 0xE1
     let s := withF s 0x10
     after s fun t => decide (t.regs.a = 0x1D ∧ t.regs.flags.toByte = 0x10
        ∧ t.out.cycles = 8)) = true := by decide

/-- A10 (R270). -/
theorem test_A10 :
    (let s := base [0x90]
     let s := s.setReg .a 0x00
     let s := s.setReg .b 0x01
     after s fun t => decide (t.regs.a = 0xFF ∧ t.regs.flags.toByte = 0x70)) = true := by decide

/-- A11 (R271). -/
theorem test_A11 :
    (let s := base [0x96] [(0xC000, 0x40)]
     let s := s.setReg .a 0x3E
     let s := s.setPair .hl 0xC000
     after s fun t => decide (t.regs.a = 0xFE ∧ t.regs.flags.toByte = 0x50
        ∧ t.out.cycles = 8)) = true := by decide

/-- A14 (R273). -/
theorem test_A14 :
    (let s := base [0x9F]
     let s := s.setReg .a 0x12
     let s := withF s 0x10
     after s fun t => decide (t.regs.a = 0xFF ∧ t.regs.flags.toByte = 0x70)) = true := by decide

/-- A16 (R274). -/
theorem test_A16 :
    (let s := base [0x9E] [(0xC000, 0x4F)]
     let s := s.setReg .a 0x3B
     let s := s.setPair .hl 0xC000
     let s := withF s 0x10
     after s fun t => decide (t.regs.a = 0xEB ∧ t.regs.flags.toByte = 0x70
        ∧ t.out.cycles = 8)) = true := by decide

/-- A17 (R275). -/
theorem test_A17 :
    (let s := base [0xDE, 0x3A]
     let s := s.setReg .a 0x3B
     let s := withF s 0x10
     after s fun t => decide (t.regs.a = 0x00 ∧ t.regs.flags.toByte = 0xC0
        ∧ t.out.cycles = 8)) = true := by decide

/-- A18 (R276). -/
theorem test_A18 :
    (let s := base [0xA5]
     let s := s.setReg .a 0x5A
     let s := s.setReg .l 0x3F
     after s fun t => decide (t.regs.a = 0x1A ∧ t.regs.flags.toByte = 0x20
        ∧ t.out.cycles = 4)) = true := by decide

/-- A19 (R277). -/
theorem test_A19 :
    (let s := base [0xA6] [(0xC000, 0x00)]
     let s := s.setReg .a 0x5A
     let s := s.setPair .hl 0xC000
     after s fun t => decide (t.regs.a = 0x00 ∧ t.regs.flags.toByte = 0xA0
        ∧ t.out.cycles = 8)) = true := by decide

/-- A21 (R279). -/
theorem test_A21 :
    (let s := base [0xAF]
     let s := s.setReg .a 0xFF
     after s fun t => decide (t.regs.a = 0x00 ∧ t.regs.flags.toByte = 0x80
        ∧ t.out.cycles = 4)) = true := by decide

/-- A22 (R280). -/
theorem test_A22 :
    (let s := base [0xAE] [(0xC000, 0x8A)]
     let s := s.setReg .a 0xFF
     let s := s.setPair .hl 0xC000
     after s fun t => decide (t.regs.a = 0x75 ∧ t.regs.flags.toByte = 0x00
        ∧ t.out.cycles = 8)) = true := by decide

/-- A25 (R283). -/
theorem test_A25 :
    (let s := base [0xB6] [(0xC000, 0x00)]
     let s := s.setReg .a 0x00
     let s := s.setPair .hl 0xC000
     after s fun t => decide (t.regs.a = 0x00 ∧ t.regs.flags.toByte = 0x80
        ∧ t.out.cycles = 8)) = true := by decide

/-- A26 (R284). -/
theorem test_A26 :
    (let s := base [0xF6, 0x03]
     let s := s.setReg .a 0x5A
     after s fun t => decide (t.regs.a = 0x5B ∧ t.regs.flags.toByte = 0x00
        ∧ t.out.cycles = 8)) = true := by decide

/-- A27 (R285). -/
theorem test_A27 :
    (let s := base [0xB8]
     let s := s.setReg .a 0x3C
     let s := s.setReg .b 0x2F
     after s fun t => decide (t.regs.a = 0x3C ∧ t.regs.flags.toByte = 0x60
        ∧ t.out.cycles = 4)) = true := by decide

/-- A29 (R286). -/
theorem test_A29 :
    (let s := base [0xBE] [(0xC000, 0x40)]
     let s := s.setReg .a 0x3C
     let s := s.setPair .hl 0xC000
     after s fun t => decide (t.regs.a = 0x3C ∧ t.regs.flags.toByte = 0x50
        ∧ t.out.cycles = 8)) = true := by decide

/-- A30 (R287). -/
theorem test_A30 :
    (let s := base [0xFE, 0x3C]
     let s := s.setReg .a 0x3C
     after s fun t => decide (t.regs.a = 0x3C ∧ t.regs.flags.toByte = 0xC0
        ∧ t.out.cycles = 8)) = true := by decide

/-- A32 (R288). -/
theorem test_A32 :
    (let s := base [0x3C]
     let s := s.setReg .a 0xFF
     let s := withF s 0x10
     after s fun t => decide (t.regs.a = 0x00 ∧ t.regs.flags.toByte = 0xB0)) = true := by decide

/-- A33 (R288). -/
theorem test_A33 :
    (let s := base [0x04]
     let s := s.setReg .b 0x0F
     after s fun t => decide (t.regs.b = 0x10 ∧ t.regs.flags.toByte = 0x30)) = true := by decide

/-- A35 (R289). -/
theorem test_A35 :
    (let s := base [0x34] [(0xC000, 0xFF)]
     let s := s.setPair .hl 0xC000
     let s := withF s 0x00
     after s fun t => decide (memRead t 0xC000 = 0x00 ∧ t.regs.flags.toByte = 0xA0)) = true := by decide

/-- A38 (R290). -/
theorem test_A38 :
    (let s := base [0x3D]
     let s := s.setReg .a 0x10
     let s := withF s 0x10
     after s fun t => decide (t.regs.a = 0x0F ∧ t.regs.flags.toByte = 0x70)) = true := by decide

/-- A39 (R291). -/
theorem test_A39 :
    (let s := base [0x35] [(0xC000, 0x00)]
     let s := s.setPair .hl 0xC000
     let s := withF s 0x00
     after s fun t => decide (memRead t 0xC000 = 0xFF ∧ t.regs.flags.toByte = 0x60
        ∧ t.out.cycles = 12)) = true := by decide

/-- A41 (R292). -/
theorem test_A41 :
    (let s := base [0x27]
     let s := s.setReg .a 0x9A
     let s := withF s 0x00
     after s fun t => decide (t.regs.a = 0x00 ∧ t.regs.flags.toByte = 0x90
        ∧ t.out.cycles = 4)) = true := by decide

/-- A43 (R292). -/
theorem test_A43 :
    (let s := base [0x27]
     let s := s.setReg .a 0x00
     let s := withF s 0x70
     after s fun t => decide (t.regs.a = 0x9A ∧ t.regs.flags.toByte = 0x50)) = true := by decide

/-- A45 (R293). -/
theorem test_A45 :
    (let s := base [0x2F]
     let s := s.setReg .a 0x35
     let s := withF s 0x00
     after s fun t => decide (t.regs.a = 0xCA ∧ t.regs.flags.toByte = 0x60
        ∧ t.out.cycles = 4)) = true := by decide

/-- A46 (R294). -/
theorem test_A46 :
    (let s := base [0x37]
     let s := withF s 0xF0
     after s fun t => decide (t.regs.flags.toByte = 0x90 ∧ t.out.cycles = 4)) = true := by decide

/-- A48 (R295). -/
theorem test_A48 :
    (let s := base [0x3F]
     let s := withF s 0x70
     after s fun t => decide (t.regs.flags.toByte = 0x00 ∧ t.out.cycles = 4)) = true := by decide

/-- S2 (R321). -/
theorem test_S2 :
    (let s := base [0x29]
     let s := s.setPair .hl 0x8A23
     let s := withF s 0x80
     after s fun t => decide (t.pair .hl = 0x1446 ∧ t.regs.flags.toByte = 0xB0)) = true := by decide

/-- S3 (R321). -/
theorem test_S3 :
    (let s := base [0x39]
     let s := s.setPair .hl 0xFFFF
     let s := s.setPair .sp 0x0001
     let s := withF s 0x00
     after s fun t => decide (t.pair .hl = 0x0000 ∧ t.regs.flags.toByte = 0x30)) = true := by decide

/-- S4 (R321). -/
theorem test_S4 :
    (let s := base [0x19]
     let s := s.setPair .hl 0x0FFF
     let s := s.setPair .de 0x0001
     let s := withF s 0x00
     after s fun t => decide (t.pair .hl = 0x1000 ∧ t.regs.flags.toByte = 0x20)) = true := by decide

/-- S5 (R322). -/
theorem test_S5 :
    (let s := base [0x13]
     let s := s.setPair .de 0xFFFF
     let s := withF s 0x00
     after s fun t => decide (t.pair .de = 0x0000 ∧ t.regs.flags.toByte = 0x00
        ∧ t.out.cycles = 8)) = true := by decide

/-- S6 (R322). -/
theorem test_S6 :
    (let s := base [0x33]
     let s := s.setPair .sp 0xFFFE
     after s fun t => decide (t.pair .sp = 0xFFFF)) = true := by decide

/-- S7 (R323). -/
theorem test_S7 :
    (let s := base [0x0B]
     let s := s.setPair .bc 0x0000
     after s fun t => decide (t.pair .bc = 0xFFFF ∧ t.out.cycles = 8)) = true := by decide

/-- S11 (R324). -/
theorem test_S11 :
    (let s := base [0xE8, 0xFF]
     let s := s.setPair .sp 0x00FF
     after s fun t => decide (t.pair .sp = 0x00FE ∧ t.regs.flags.toByte = 0x30)) = true := by decide

/-- S13 (R324). -/
theorem test_S13 :
    (let s := base [0xE8, 0x80]
     let s := s.setPair .sp 0xD000
     after s fun t => decide (t.pair .sp = 0xCF80 ∧ t.regs.flags.toByte = 0x00)) = true := by decide

/-- S15 (R325). -/
theorem test_S15 :
    (let s := base [0xF8, 0x01]
     let s := s.setPair .sp 0xFFFF
     after s fun t => decide (t.pair .hl = 0x0000 ∧ t.regs.flags.toByte = 0x30)) = true := by decide

/-- T2 (R341). -/
theorem test_T2 :
    (let s := base [0x07]
     let s := s.setReg .a 0x00
     let s := withF s 0x80
     after s fun t => decide (t.regs.a = 0x00 ∧ t.regs.flags.toByte = 0x00)) = true := by decide

/-- T3 (R342). -/
theorem test_T3 :
    (let s := base [0x0F]
     let s := s.setReg .a 0x3B
     let s := withF s 0x00
     after s fun t => decide (t.regs.a = 0x9D ∧ t.regs.flags.toByte = 0x10
        ∧ t.out.cycles = 4)) = true := by decide

/-- T5 (R343). -/
theorem test_T5 :
    (let s := base [0x17]
     let s := s.setReg .a 0x80
     let s := withF s 0x00
     after s fun t => decide (t.regs.a = 0x00 ∧ t.regs.flags.toByte = 0x10)) = true := by decide

/-- T6 (R344). -/
theorem test_T6 :
    (let s := base [0x1F]
     let s := s.setReg .a 0x81
     let s := withF s 0x00
     after s fun t => decide (t.regs.a = 0x40 ∧ t.regs.flags.toByte = 0x10
        ∧ t.out.cycles = 4)) = true := by decide

/-- T7 (R345). -/
theorem test_T7 :
    (let s := base [0xCB, 0x00]
     let s := s.setReg .b 0x85
     let s := withF s 0x00
     after s fun t => decide (t.regs.b = 0x0B ∧ t.regs.flags.toByte = 0x10 ∧ t.regs.pc = 0x0102
        ∧ t.out.cycles = 8)) = true := by decide

/-- T8 (R346). -/
theorem test_T8 :
    (let s := base [0xCB, 0x06] [(0xC000, 0x00)]
     let s := s.setPair .hl 0xC000
     let s := withF s 0x00
     after s fun t => decide (memRead t 0xC000 = 0x00 ∧ t.regs.flags.toByte = 0x80
        ∧ t.out.cycles = 16)) = true := by decide

/-- T9 (R347). -/
theorem test_T9 :
    (let s := base [0xCB, 0x09]
     let s := s.setReg .c 0x01
     let s := withF s 0x00
     after s fun t => decide (t.regs.c = 0x80 ∧ t.regs.flags.toByte = 0x10
        ∧ t.out.cycles = 8)) = true := by decide

/-- T12 (R350). -/
theorem test_T12 :
    (let s := base [0xCB, 0x16] [(0xC000, 0x11)]
     let s := s.setPair .hl 0xC000
     let s := withF s 0x10
     after s fun t => decide (memRead t 0xC000 = 0x23 ∧ t.regs.flags.toByte = 0x00
        ∧ t.out.cycles = 16)) = true := by decide

/-- T14 (R352). -/
theorem test_T14 :
    (let s := base [0xCB, 0x1E] [(0xC000, 0x8A)]
     let s := s.setPair .hl 0xC000
     let s := withF s 0x10
     after s fun t => decide (memRead t 0xC000 = 0xC5 ∧ t.regs.flags.toByte = 0x00
        ∧ t.out.cycles = 16)) = true := by decide

/-- T15 (R353). -/
theorem test_T15 :
    (let s := base [0xCB, 0x22]
     let s := s.setReg .d 0x80
     let s := withF s 0x00
     after s fun t => decide (t.regs.d = 0x00 ∧ t.regs.flags.toByte = 0x90
        ∧ t.out.cycles = 8)) = true := by decide

/-- T17 (R355). -/
theorem test_T17 :
    (let s := base [0xCB, 0x2F]
     let s := s.setReg .a 0x8A
     let s := withF s 0x00
     after s fun t => decide (t.regs.a = 0xC5 ∧ t.regs.flags.toByte = 0x00
        ∧ t.out.cycles = 8)) = true := by decide

/-- T18 (R356). -/
theorem test_T18 :
    (let s := base [0xCB, 0x2E] [(0xC000, 0x01)]
     let s := s.setPair .hl 0xC000
     let s := withF s 0x00
     after s fun t => decide (memRead t 0xC000 = 0x00 ∧ t.regs.flags.toByte = 0x90
        ∧ t.out.cycles = 16)) = true := by decide

/-- T20 (R357). -/
theorem test_T20 :
    (let s := base [0xCB, 0x37]
     let s := s.setReg .a 0x00
     let s := withF s 0x10
     after s fun t => decide (t.regs.a = 0x00 ∧ t.regs.flags.toByte = 0x80)) = true := by decide

/-- T21 (R358). -/
theorem test_T21 :
    (let s := base [0xCB, 0x36] [(0xC000, 0xF0)]
     let s := s.setPair .hl 0xC000
     let s := withF s 0x00
     after s fun t => decide (memRead t 0xC000 = 0x0F ∧ t.regs.flags.toByte = 0x00
        ∧ t.out.cycles = 16)) = true := by decide

/-- T22 (R359). -/
theorem test_T22 :
    (let s := base [0xCB, 0x3F]
     let s := s.setReg .a 0x01
     let s := withF s 0x00
     after s fun t => decide (t.regs.a = 0x00 ∧ t.regs.flags.toByte = 0x90
        ∧ t.out.cycles = 8)) = true := by decide

/-- T23 (R360). -/
theorem test_T23 :
    (let s := base [0xCB, 0x3E] [(0xC000, 0xFF)]
     let s := s.setPair .hl 0xC000
     let s := withF s 0x00
     after s fun t => decide (memRead t 0xC000 = 0x7F ∧ t.regs.flags.toByte = 0x10
        ∧ t.out.cycles = 16)) = true := by decide

/-- T24 (R361). -/
theorem test_T24 :
    (let s := base [0xCB, 0x7C]
     let s := s.setReg .h 0x80
     let s := withF s 0x00
     after s fun t => decide (t.regs.h = 0x80 ∧ t.regs.flags.toByte = 0x20
        ∧ t.out.cycles = 8)) = true := by decide

/-- T25 (R361). -/
theorem test_T25 :
    (let s := base [0xCB, 0x47]
     let s := s.setReg .a 0xFE
     let s := withF s 0x10
     after s fun t => decide (t.regs.a = 0xFE ∧ t.regs.flags.toByte = 0xB0)) = true := by decide

/-- T26 (R362). -/
theorem test_T26 :
    (let s := base [0xCB, 0x66] [(0xC000, 0xEF)]
     let s := s.setPair .hl 0xC000
     let s := withF s 0x00
     after s fun t => decide (memRead t 0xC000 = 0xEF ∧ t.regs.flags.toByte = 0xA0
        ∧ t.out.cycles = 12)) = true := by decide

/-- T27 (R363). -/
theorem test_T27 :
    (let s := base [0xCB, 0xBF]
     let s := s.setReg .a 0x80
     let s := withF s 0xB0
     after s fun t => decide (t.regs.a = 0x00 ∧ t.regs.flags.toByte = 0xB0
        ∧ t.out.cycles = 8)) = true := by decide

/-- T28 (R364). -/
theorem test_T28 :
    (let s := base [0xCB, 0x9E] [(0xC000, 0xFF)]
     let s := s.setPair .hl 0xC000
     after s fun t => decide (memRead t 0xC000 = 0xF7 ∧ t.out.cycles = 16)) = true := by decide

/-- T29 (R365). -/
theorem test_T29 :
    (let s := base [0xCB, 0xDF]
     let s := s.setReg .a 0x80
     after s fun t => decide (t.regs.a = 0x88 ∧ t.out.cycles = 8)) = true := by decide

/-- T30 (R366). -/
theorem test_T30 :
    (let s := base [0xCB, 0xC6] [(0xC000, 0x00)]
     let s := s.setPair .hl 0xC000
     after s fun t => decide (memRead t 0xC000 = 0x01 ∧ t.out.cycles = 16)) = true := by decide

/-- J1 (R381). -/
theorem test_J1 :
    (let s := base [0xC3, 0x00, 0x02]
     after s fun t => decide (t.regs.pc = 0x0200 ∧ t.out.cycles = 16)) = true := by decide

/-- J2 (R382). -/
theorem test_J2 :
    (let s := base [0xC2, 0x00, 0x02]
     let s := withF s 0x80
     after s fun t => decide (t.regs.pc = 0x0103 ∧ t.out.cycles = 12)) = true := by decide

/-- J3 (R382). -/
theorem test_J3 :
    (let s := base [0xC2, 0x00, 0x02]
     let s := withF s 0x00
     after s fun t => decide (t.regs.pc = 0x0200 ∧ t.out.cycles = 16)) = true := by decide

/-- J5 (R383). -/
theorem test_J5 :
    (let s := base [0xE9]
     let s := s.setPair .hl 0x4000
     after s fun t => decide (t.regs.pc = 0x4000 ∧ t.out.cycles = 4)) = true := by decide

/-- J7 (R384). -/
theorem test_J7 :
    (let s := base [0x18, 0xFE]
     after s fun t => decide (t.regs.pc = 0x0100 ∧ t.out.cycles = 12)) = true := by decide

/-- J8 (R384). -/
theorem test_J8 :
    (let s := base [0x18, 0x80]
     after s fun t => decide (t.regs.pc = 0x0082)) = true := by decide

/-- J9 (R385). -/
theorem test_J9 :
    (let s := base [0x20, 0xFC]
     let s := withF s 0x00
     after s fun t => decide (t.regs.pc = 0x00FE ∧ t.out.cycles = 12)) = true := by decide

/-- J10 (R385). -/
theorem test_J10 :
    (let s := base [0x28, 0x05]
     let s := withF s 0x00
     after s fun t => decide (t.regs.pc = 0x0102 ∧ t.out.cycles = 8)) = true := by decide

/-- J13 (R386). -/
theorem test_J13 :
    (let s := base [0xCD, 0x34, 0x12]
     let s := s.setPair .sp 0xFFFE
     after s fun t => decide (t.regs.pc = 0x1234 ∧ t.pair .sp = 0xFFFC
        ∧ memRead t 0xFFFD = 0x01 ∧ memRead t 0xFFFC = 0x03 ∧ t.out.cycles = 24)) = true := by decide

/-- J14 (R387). -/
theorem test_J14 :
    (let s := base [0xC4, 0x34, 0x12]
     let s := withF s 0x80
     let s := s.setPair .sp 0xFFFE
     after s fun t => decide (t.regs.pc = 0x0103 ∧ t.pair .sp = 0xFFFE
        ∧ t.out.cycles = 12)) = true := by decide

/-- J16 (R388). -/
theorem test_J16 :
    (let s := base [0xC9] [(0xFFFC, 0x53), (0xFFFD, 0x01)]
     let s := s.setPair .sp 0xFFFC
     after s fun t => decide (t.regs.pc = 0x0153 ∧ t.pair .sp = 0xFFFE
        ∧ t.out.cycles = 16)) = true := by decide

/-- J17 (R389). -/
theorem test_J17 :
    (let s := base [0xC8] [(0xFFFC, 0x53), (0xFFFD, 0x01)]
     let s := withF s 0x80
     let s := s.setPair .sp 0xFFFC
     after s fun t => decide (t.regs.pc = 0x0153 ∧ t.pair .sp = 0xFFFE
        ∧ t.out.cycles = 20)) = true := by decide

/-- J18 (R389). -/
theorem test_J18 :
    (let s := base [0xD0]
     let s := withF s 0x10
     let s := s.setPair .sp 0xFFFC
     after s fun t => decide (t.regs.pc = 0x0101 ∧ t.pair .sp = 0xFFFC ∧ t.out.cycles = 8)) = true := by decide

/-- J19 (R390). -/
theorem test_J19 :
    (let s := base [0xD9] [(0xFFFC, 0x53), (0xFFFD, 0x01)]
     let s := { s with latch := { s.latch with ime := false } }
     let s := s.setPair .sp 0xFFFC
     after s fun t => decide (t.regs.pc = 0x0153 ∧ t.pair .sp = 0xFFFE ∧ t.latch.ime = true
        ∧ t.out.cycles = 16)) = true := by decide

/-- J20 (R391). -/
theorem test_J20 :
    (let s := base [0xEF]
     let s := s.setPair .sp 0xFFFE
     after s fun t => decide (t.regs.pc = 0x0028 ∧ t.pair .sp = 0xFFFC
        ∧ memRead t 0xFFFD = 0x01 ∧ memRead t 0xFFFC = 0x01 ∧ t.out.cycles = 16)) = true := by decide

/-- J21 (R391). -/
theorem test_J21 :
    (let s := base [0xFF]
     let s := s.setPair .sp 0xFFFE
     after s fun t => decide (t.regs.pc = 0x0038 ∧ t.pair .sp = 0xFFFC)) = true := by decide

/-- Y1 (R400). -/
theorem test_Y1 :
    (let s := base [0x00]
     after s fun t => decide (t.regs.pc = 0x0101 ∧ t.out.cycles = 4)) = true := by decide

/-- Y2 (R401). -/
theorem test_Y2 :
    (let s := base [0xF3]
     let s := { s with latch := { s.latch with ime := true } }
     after s fun t => decide (t.latch.ime = false ∧ t.latch.imePending = false
        ∧ t.out.cycles = 4)) = true := by decide

/-- Y4 (R405). -/
theorem test_Y4 :
    (let s := base [0xFB, 0x00]
     let s := { s with latch := { s.latch with ime := false } }
     after s fun t => decide (t.latch.ime = false ∧ t.latch.imePending = true
        ∧ t.out.cycles = 4)) = true := by decide

/-- Y7 (R402). -/
theorem test_Y7 :
    (let s := base [0x76]
     let s := { s with latch := { s.latch with ime := false } }
     let s := { s with irq := { s.irq with ie := 0x01 } }
     let s := { s with irq := { s.irq with ifr := 0x00 } }
     after s fun t => decide (t.latch.halted = true ∧ t.regs.pc = 0x0101
        ∧ t.out.cycles = 4)) = true := by decide

/-- Y9 (R403). -/
theorem test_Y9 :
    (let s := base [0x3C]
     let s := { s with latch := { s.latch with ime := false } }
     let s := { s with latch := { s.latch with halted := true } }
     let s := { s with irq := { s.irq with ie := 0x01 } }
     let s := { s with irq := { s.irq with ifr := 0x01 } }
     let s := s.setReg .a 0x01
     after s fun t => decide (t.latch.halted = false ∧ t.regs.a = 0x02 ∧ t.regs.pc = 0x0101
        ∧ t.out.cycles = 4)) = true := by decide

/-- Y13 (R407). -/
theorem test_Y13 :
    (let s := base [0xD3]
     cpuStep s = .fault (.undefinedOpcode 0xD3)) := rfl

/-- I1 (R424). -/
theorem test_I1 :
    (let s := base [0x00]
     let s := { s with latch := { s.latch with ime := true } }
     let s := { s with irq := { s.irq with ie := 0x05 } }
     let s := { s with irq := { s.irq with ifr := 0x05 } }
     let s := s.setPair .sp 0xFFFE
     after s fun t => decide (t.regs.pc = 0x0040 ∧ t.pair .sp = 0xFFFC
        ∧ memRead t 0xFFFD = 0x01 ∧ memRead t 0xFFFC = 0x00 ∧ t.irq.ifr = 0x04
        ∧ t.latch.ime = false ∧ t.out.cycles = 20)) = true := by decide

/-- I2 (R423). -/
theorem test_I2 :
    (let s := base [0x00]
     let s := { s with latch := { s.latch with ime := true } }
     let s := { s with irq := { s.irq with ie := 0x1F } }
     let s := { s with irq := { s.irq with ifr := 0x18 } }
     let s := s.setPair .sp 0xFFFE
     after s fun t => decide (t.regs.pc = 0x0058 ∧ t.irq.ifr = 0x10)) = true := by decide

/-- I3 (R422). -/
theorem test_I3 :
    (let s := base [0x00]
     let s := { s with latch := { s.latch with ime := false } }
     let s := { s with irq := { s.irq with ie := 0x01 } }
     let s := { s with irq := { s.irq with ifr := 0x01 } }
     after s fun t => decide (t.regs.pc = 0x0101 ∧ t.irq.ifr = 0x01)) = true := by decide

/-- I4 (R424). -/
theorem test_I4 :
    (let s := base []
     let s := { s with latch := { s.latch with ime := true } }
     let s := { s with latch := { s.latch with halted := true } }
     let s := { s with regs := { s.regs with pc := 0x0101 } }
     let s := { s with irq := { s.irq with ie := 0x04 } }
     let s := { s with irq := { s.irq with ifr := 0x04 } }
     let s := s.setPair .sp 0xFFFE
     after s fun t => decide (t.latch.halted = false ∧ t.regs.pc = 0x0050
        ∧ memRead t 0xFFFD = 0x01 ∧ memRead t 0xFFFC = 0x01 ∧ t.irq.ifr = 0x00
        ∧ t.out.cycles = 20)) = true := by decide

/-- I5 (R421). -/
theorem test_I5 :
    (let s := base [0x00]
     let s := { s with latch := { s.latch with ime := true } }
     let s := { s with irq := { s.irq with ie := 0xE0 } }
     let s := { s with irq := { s.irq with ifr := 0xE0 } }
     after s fun t => decide (t.regs.pc = 0x0101 ∧ t.latch.ime = true)) = true := by decide

/-! ### Devices -/

/-- W2: 0x91 to LCDC, then 456 cycles: LY from 0 to 1, and OAMScan again. -/
theorem test_W2 :
    (let t := ppuStep 456 (memWrite (base []) 0xFF40 0x91)
     (t.ppu.ly, t.ppu.mode, t.ppu.dot)) = (1, .oamScan, 0) := by decide
/-- W3: mapper 1, a ROM-bank-select write of 0x00 gives bank 1. -/
theorem test_W3 :
    ((Cart.afterLoad 0x01 4 1 false).writeRegister 0x2000 0x00).romBank = 1 := by decide
set_option maxRecDepth 20000 in
/-- R452: TIMA's overflow reloads TMA and sets IF bit 2. -/
theorem test_tima_overflow :
    (let s := memWrite (memWrite (memWrite (base []) 0xFF07 0x05) 0xFF05 0xFF) 0xFF06 0x80
     let t := timaStep 16 s
     (t.timer.tima, t.irq.ifr)) = (0x80, 0x04) := by decide
set_option maxRecDepth 20000 in
/-- R477, R478: of two sprites that draw at a column the one with the lower X is seen; its shade is
1, the other's 2. -/
theorem test_sprite_order :
    (let s := memWrite (base []) 0xFF48 0xE4
     let cells := [(0x8020, 0xFF), (0x8021, 0x00), (0x8030, 0x00), (0x8031, 0xFF)]
     let u := cells.foldl (fun t p => t.setRam p.1 p.2) s
     let sorted := sortSprites [⟨0x10, 9, 3, 0⟩, ⟨0x10, 8, 2, 0⟩]
     ((sorted.reverse.foldl (drawSprite u 0) (List.replicate 10 0)).map BitVec.toNat)) =
      [1, 1, 1, 1, 1, 1, 1, 1, 2, 0] := by decide
set_option maxRecDepth 20000 in
/-- R139: DMA copies page 0xC0; its last byte is at 0xFE9F. -/
theorem test_dma :
    (let s := memWrite (memWrite (base []) 0xC000 0x11) 0xC09F 0x22
     let t := memWrite s 0xFF46 0xC0
     (memRead t 0xFE00, memRead t 0xFE9F, memRead t 0xFF46)) = (0x11, 0x22, 0xC0) := by decide
/-- R143: with the d-pad selected and Right pressed, P1 reads 0xEE. -/
theorem test_joypad :
    memRead (memWrite (setButtons { Buttons.released with right := true } (base [])) 0xFF00 0x20)
      0xFF00 = 0xEE := by decide
/-- A machine with mapper `cartType`, RAM enabled, `ramBanks` banks, bank `ramBank` selected. -/
def withCart (cartType : Byte) (ramBanks ramBank : Nat) (enabled : Bool) : State :=
  { base [] with
    cart := { Cart.afterLoad cartType 4 ramBanks false with ramEn := enabled, ramBank := ramBank } }
set_option maxRecDepth 20000 in
/-- R541: a dump loads back into the machine it came from. -/
theorem test_dump_load : load (dump (base [0x3C])) (base [0x3C]) = ⟨base [0x3C], none⟩ := rfl
set_option maxRecDepth 20000 in
/-- R541 with 10_state.md R41: a faulted machine's dump loads as a faulted machine. -/
theorem test_dump_load_faulted :
    (load (dump { base [] with fault := some (.undefinedOpcode 0xD3) }) (base [])).machine.fault
      = some (.undefinedOpcode 0xD3) := rfl
set_option maxRecDepth 20000 in
/-- R542: a save state whose frame data is cut off is rejected, and the machine is as it was. -/
theorem test_truncated_save_state :
    (let d := dump (base [0x3C])
     load { d with ppu := { d.ppu with frame := d.ppu.frame.tail } } (base []))
      = ⟨base [], some .malformedSaveState⟩ := rfl
set_option maxRecDepth 20000 in
/-- R542 with 20_memory.md R129: a dump of the right length from a larger cartridge loads, its bank
index 5 reduced modulo the 4 banks of the machine it loads into. -/
theorem test_load_other_cartridge :
    (let s := memWrite { base [] with cart := Cart.afterLoad 0x11 8 4 false } 0x2000 5
     let r := load (dump s) (withCart 0x03 4 0 false)
     (s.cart.romBank, r.machine.cart.romBank, r.machine.cart.romBanks, r.machine.cart.cartType,
       r.report)) = (5, 1, 4, 0x03, none) := rfl
/-- R524: a short image is refused. -/
theorem test_short_image : (construct Params.default [0x00]).refused = some .romSizeMismatch := by
  decide

/-! ### Witnesses: a state and operands that meet the hypotheses of each statement -/

/-- IE, IF and IME set. -/
def withIrq (s : State) (ie ifr : Byte) (ime : Bool) : State :=
  { s with irq := { ie := ie, ifr := ifr }, latch := { s.latch with ime := ime } }

/-- Halted. -/
def halted (s : State) : State := { s with latch := { s.latch with halted := true } }

/-- LCD on, in a mode at the start of a line. -/
def atLine (ly : Byte) (mode : PpuMode) (ds : Bool) : State :=
  { State.reset with
    ppu := { State.reset.ppu with ly := ly, mode := mode }
    latch := { State.reset.latch with ds := ds } }

/-- RegisterOnly and SetsRegister: a register that is not the destination. -/
theorem test_witness_frame : Reg8.b ∉ [Reg8.a] ∧ Reg8.l ∉ [Reg8.a, Reg8.h] ∧ Reg8.c ∉ [] := by decide
/-- LoadPairs, IncDecPair and PopPair: a pair that is not SP, and one that is not AF. -/
theorem test_witness_pairs : Pair.hl ≠ .sp ∧ StackPair.hl ≠ .af := by decide
/-- StoresOnly and StoresByte: an address that stores plainly, and one the write does not reach. -/
theorem test_witness_stores_byte :
    readsBack (base []) 0xC000 = true ∧ readsBack (base []) 0xFFFF = true
      ∧ writeReaches (base []).cart 0xC000 0xDFFF = false
      ∧ writeReaches (base []).cart 0xC000 0xE001 = false := by decide
/-- PushPair, CallInstructions, StoreStackPointer and InterruptDispatch: two stores that both read
back, and an address neither reaches; SP = 0 wraps to 0xFFFF and 0xFFFE. -/
theorem test_witness_stores_two :
    readsBack (base []) 0xFFFF = true ∧ readsBack (base []) 0xFFFE = true
      ∧ writeReaches (base []).cart 0xFFFE 0xFFFF = false
      ∧ writeReaches (base []).cart 0xFFFF 0xFF0F = false
      ∧ writeReaches (base []).cart 0xFFFE 0xFF0F = false := by decide
/-- DecimalAdjust: each way of each stage, at 0x99 and 0x9A and at low nibbles 9 and 10. -/
theorem test_witness_daa :
    (withF (base []) 0x00).regs.flags.n = false ∧ (withF (base []) 0x40).regs.flags.n = true
      ∧ ¬(0x99 < (0x99 : Byte).toNat) ∧ 0x99 < (0x9A : Byte).toNat
      ∧ ¬(9 < (0x99 : Byte).toNat % 16) ∧ 9 < (0x9A : Byte).toNat % 16 := by decide
/-- JumpInstructions, CallInstructions and ReturnInstructions: each condition met and not met. -/
theorem test_witness_conditions :
    (CondMet .nz (Flags.ofByte 0x00) ∧ ¬CondMet .nz (Flags.ofByte 0x80))
      ∧ (CondMet .z (Flags.ofByte 0x80) ∧ ¬CondMet .z (Flags.ofByte 0x00))
      ∧ (CondMet .nc (Flags.ofByte 0x00) ∧ ¬CondMet .nc (Flags.ofByte 0x10))
      ∧ (CondMet .c (Flags.ofByte 0x10) ∧ ¬CondMet .c (Flags.ofByte 0x00)) := by
  simp only [CondMet]; decide
/-- HaltInstruction: halting with nothing pending, with IME, and the halt bug. -/
theorem test_witness_halt :
    (base [0x76]).irq.ie &&& (base [0x76]).irq.ifr &&& 0x1F = 0
      ∧ (withIrq (base [0x76]) 0x01 0x01 true).latch.ime = true
      ∧ (let s := withIrq (base [0x76]) 0x01 0x01 false
        ¬(s.latch.ime = true ∨ s.irq.ie &&& s.irq.ifr &&& 0x1F = 0)) := by decide
/-- StopInstruction: armed on CGB, and each way not. -/
theorem test_witness_stop :
    (let s := { base [0x10, 0x00] with params := { Params.default with bootProfile := .cgb }, key1 := 1 }
     s.params.bootProfile = .cgb ∧ s.key1.getLsbD 0 = true)
      ∧ ¬((base []).params.bootProfile = .cgb ∧ (base []).key1.getLsbD 0 = true)
      ∧ (let s := { base [] with params := { Params.default with bootProfile := .cgb } }
        ¬(s.params.bootProfile = .cgb ∧ s.key1.getLsbD 0 = true)) := by decide
/-- UndefinedOpcodesFault: the first and the last of the list. -/
theorem test_witness_undefined :
    (Instr.illegalD3, (0xD3 : Byte)) ∈ Forms.undefinedOpcodes
      ∧ (Instr.illegalFD, (0xFD : Byte)) ∈ Forms.undefinedOpcodes := by decide
/-- DecodeUndoesEncode: a well-formed term of each length. -/
theorem test_witness_round_trip :
    Instr.nop.wellFormed = true ∧ Instr.set7A.wellFormed = true
      ∧ (Instr.callA16 0xFFFF).wellFormed = true := by decide
/-- StepRunsDecodedInstruction, all hypotheses together; and again for a machine that leaves the halted
state with IME clear. -/
theorem test_witness_step_runs :
    (let s := base [0x3E, 0x42]
     s.fault = none ∧ s.refused = none
       ∧ ¬(s.latch.ime = true ∧ s.irq.ie &&& s.irq.ifr &&& 0x1F ≠ 0)
       ∧ ¬(s.latch.halted = true ∧ s.irq.ie &&& s.irq.ifr &&& 0x1F = 0)
       ∧ decode [memRead (beginStep s) s.regs.pc, memRead (beginStep s) (s.regs.pc + 1),
           memRead (beginStep s) (s.regs.pc + 1 + 1)] = .ok (.ldAD8 0x42, [0]))
      ∧ (let s := halted (withIrq (base [0x00]) 0x01 0x01 false)
        ¬(s.latch.ime = true ∧ s.irq.ie &&& s.irq.ifr &&& 0x1F ≠ 0)
          ∧ ¬(s.latch.halted = true ∧ s.irq.ie &&& s.irq.ifr &&& 0x1F = 0)) := by decide
/-- MachineStep: a faulted machine, a refused one, one that completes a step, one that faults, and one
that is refused. -/
theorem test_witness_machine_step :
    ({ base [] with fault := some (.undefinedOpcode 0xD3) } : State).fault = some (.undefinedOpcode 0xD3)
      ∧ ({ base [] with refused := some .stopUnmodelled } : State).refused = some .stopUnmodelled
      ∧ (∃ t, cpuStep (beginStep (base [0x3C])) = .next t) ∧ (∃ t, step (base [0x3C]) = .next t)
      ∧ cpuStep (beginStep (base [0xD3])) = .fault (.undefinedOpcode 0xD3)
      ∧ cpuStep (beginStep (base [0x10, 0x00])) = .refused .stopUnmodelled
      ∧ (base [0x3C]).fault = none ∧ (base [0x3C]).refused = none :=
  ⟨rfl, rfl, ⟨_, rfl⟩, ⟨_, rfl⟩, rfl, rfl, rfl, rfl⟩
/-- ImePromotion: an instruction with the latch set, EI without it, DI, a dispatch, a halted quantum. -/
theorem test_witness_promotion :
    (∃ t, decode (fetchBytes (base [0x00])) = .ok (.nop, [0x00, 0x00])
        ∧ exec .nop { base [0x00] with latch := ⟨false, true, false, false, false⟩ } = .next t
        ∧ t.latch.imePending = true)
      ∧ decode (fetchBytes (base [0xFB])) = .ok (.ei, [0x00, 0x00])
      ∧ (base [0xFB]).latch.imePending = false
      ∧ decode (fetchBytes (base [0xF3])) = .ok (.di, [0x00, 0x00])
      ∧ (withIrq (base []) 0x10 0x10 true).latch.ime = true
      ∧ (halted (base [])).latch.halted = true :=
  ⟨⟨_, rfl, rfl, rfl⟩, rfl, rfl, rfl, rfl, rfl⟩
/-- InterruptDispatch: source 0 with others pending, and source 4 alone. -/
theorem test_witness_dispatch :
    (let s := withIrq (base []) 0x1F 0x1F true
     let pend := s.irq.ie &&& s.irq.ifr &&& 0x1F
     s.latch.ime = true ∧ pend.getLsbD 0 = true ∧ ∀ j, j < 0 → pend.getLsbD j = false)
      ∧ (let s := withIrq (base []) 0xFF 0xF0 true
        let pend := s.irq.ie &&& s.irq.ifr &&& 0x1F
        s.latch.ime = true ∧ pend.getLsbD 4 = true ∧ ∀ j, j < 4 → pend.getLsbD j = false) := by decide
/-- HaltedState: each of its three cases. -/
theorem test_witness_halted :
    (let s := halted (withIrq (base []) 0x01 0x01 true)
     s.latch.halted = true ∧ s.latch.ime = true ∧ s.irq.ie &&& s.irq.ifr &&& 0x1F ≠ 0)
      ∧ (let s := halted (withIrq (base []) 0x10 0x10 false)
        s.latch.halted = true ∧ s.latch.ime = false ∧ s.irq.ie &&& s.irq.ifr &&& 0x1F ≠ 0)
      ∧ (let s := halted (withIrq (base []) 0xE0 0xE0 true)
        s.latch.halted = true ∧ s.irq.ie &&& s.irq.ifr &&& 0x1F = 0) := by decide
/-- WriteThenRead: both ends of each region that stores plainly, an I/O register, and external RAM of
each mapper. -/
theorem test_witness_write_then_read :
    [0x8000, 0x9FFF, 0xC000, 0xDFFF, 0xE000, 0xFDFF, 0xFE00, 0xFE9F, 0xFF03, 0xFF42, 0xFF80, 0xFFFE,
      0xFFFF].all (readsBack (base [])) = true
      ∧ readsBack (withCart 0x03 4 3 true) 0xA000 = true
      ∧ readsBack (withCart 0x13 4 3 true) 0xBFFF = true
      ∧ readsBack (withCart 0x10 4 0x0C true) 0xA000 = true
      ∧ readsBack (withCart 0x1B 16 15 true) 0xBFFF = true
      ∧ readsBack (withCart 0x08 1 0 false) 0xA000 = true := by decide
/-- WriteLeavesOthers: for a write of each region, an address next to what it reaches. -/
theorem test_witness_write_leaves_others :
    [(0x2000, 0x3FFF), (0x8000, 0x8001), (0xA000, 0xA001), (0xDFFF, 0xFDFF), (0xE000, 0xC001),
      (0xFE9F, 0xFEA0), (0xFEA0, 0xFE9F), (0xFF04, 0xFF05), (0xFF40, 0xFF42), (0xFF46, 0xFEA0),
      (0xFF44, 0xFF44), (0xFF80, 0xFF7F), (0xFFFF, 0xFFFE)].all
      (fun p => !writeReaches (withCart 0x03 4 3 true).cart p.1 p.2) = true := by decide
/-- EchoUnusableAndVideoMemory: both ends of each range. -/
theorem test_witness_echo :
    (0xE000 ≤ (0xE000 : Word).toNat ∧ (0xFDFF : Word).toNat < 0xFE00)
      ∧ (0xFEA0 ≤ (0xFEA0 : Word).toNat ∧ (0xFEFF : Word).toNat < 0xFF00)
      ∧ (0x8000 ≤ (0x8000 : Word).toNat ∧ (0x9FFF : Word).toNat < 0xA000)
      ∧ (0xFE00 ≤ (0xFE00 : Word).toNat ∧ (0xFE9F : Word).toNat < 0xFEA0) := by decide
/-- IoRegisters: both profiles, and both ends of the audio registers. -/
theorem test_witness_io :
    (base []).params.bootProfile = .dmg
      ∧ ({ Params.default with bootProfile := .cgb } : Params).bootProfile = .cgb
      ∧ 0xFF10 ≤ (0xFF10 : Word).toNat ∧ (0xFF3F : Word).toNat ≤ 0xFF3F := by decide
/-- JoypadRegister: a write that keeps the select bits, and one that changes them. -/
theorem test_witness_joypad :
    (0x0F : Byte).extractLsb' 4 2 = (base []).pad.sel
      ∧ (0x20 : Byte).extractLsb' 4 2 ≠ (base []).pad.sel := by decide
/-- LcdSwitch: on to off, off to on, and each way unchanged; normal speed. -/
theorem test_witness_lcd :
    State.reset.lcd.lcdc.getLsbD 7 = true ∧ (0x11 : Byte).getLsbD 7 = false
      ∧ (base []).lcd.lcdc.getLsbD 7 = false ∧ (0x91 : Byte).getLsbD 7 = true
      ∧ State.reset.lcd.lcdc.getLsbD 7 = (0x80 : Byte).getLsbD 7
      ∧ (base []).lcd.lcdc.getLsbD 7 = (0x7F : Byte).getLsbD 7 ∧ (base []).latch.ds = false := by decide
/-- OamDma: both ends of the copy, and addresses on either side of OAM. -/
theorem test_witness_dma :
    0 < 160 ∧ 159 < 160 ∧ regionOf 0xFDFF ≠ .oam ∧ regionOf 0xFEA0 ≠ .oam := by decide
/-- MapperRegisters: each mapper, both ends of the address range, and the addresses where windows
meet. -/
theorem test_witness_mapper :
    (withCart 0x00 0 0 false).cart.mapper = .mapper0 ∧ (withCart 0x01 4 0 false).cart.mapper = .mapper1
      ∧ (withCart 0x13 4 0 false).cart.mapper = .mapper3
      ∧ (withCart 0x1C 4 0 false).cart.mapper = .mapper5
      ∧ (withCart 0x1C 4 0 false).cart.isRumble = true ∧ (withCart 0x1B 4 0 false).cart.isRumble = false
      ∧ (0x0000 : Word).toNat < 0x8000 ∧ (0x7FFF : Word).toNat < 0x8000
      ∧ (0x1FFF : Word).toNat < 0x2000 ∧ ¬((0x2000 : Word).toNat < 0x2000)
      ∧ (0x2FFF : Word).toNat < 0x3000 ∧ ¬((0x3000 : Word).toNat < 0x3000)
      ∧ (0x3FFF : Word).toNat < 0x4000 ∧ ¬((0x4000 : Word).toNat < 0x4000)
      ∧ (0x5FFF : Word).toNat < 0x6000 ∧ ¬((0x6000 : Word).toNat < 0x6000) := by decide
/-- MapperRegisters at the edges of its windows, from the rules: R124 and R126 at 0x2FFF, 0x3000,
0x3FFF, 0x4000, 0x5FFF and 0x6000; mapper 3 takes 0x3000 as a ROM bank, mapper 5 as its bit 8. -/
theorem test_witness_mapper_windows :
    (let banks (cartType : Byte) (a : Word) :=
        let c := (memWrite (withCart cartType 4 1 true) a 0x03).cart
        (c.romBank, c.ramBank)
     [0x2FFF, 0x3000, 0x3FFF, 0x4000, 0x5FFF, 0x6000].map (banks 0x13)
        = [(3, 1), (3, 1), (3, 1), (1, 3), (1, 3), (1, 1)]
      ∧ [0x2FFF, 0x3000, 0x3FFF, 0x4000, 0x5FFF, 0x6000].map (banks 0x1B)
        = [(3, 1), (1, 1), (1, 1), (1, 3), (1, 3), (1, 1)]) := by decide
/-- ExternalRam: both ends of the range, and each case of each mapper. -/
theorem test_witness_external :
    (0xA000 ≤ (0xA000 : Word).toNat ∧ (0xBFFF : Word).toNat < 0xC000)
      ∧ (0 < (withCart 0x08 1 0 false).cart.ramBanks ∧ ¬(0 < (withCart 0x00 0 0 false).cart.ramBanks))
      ∧ (let c := (withCart 0x03 4 3 true).cart
        c.mapper = .mapper1 ∧ c.ramEn = true ∧ 0 < c.ramBanks)
      ∧ (let c := (withCart 0x1B 16 15 true).cart
        c.mapper = .mapper5 ∧ c.ramEn = true ∧ 0 < c.ramBanks)
      ∧ (let c := (withCart 0x13 4 3 true).cart
        c.mapper = .mapper3 ∧ c.ramEn = true ∧ c.ramBank ≤ 3 ∧ 0 < c.ramBanks)
      ∧ (let c := (withCart 0x0F 0 3 true).cart
        ¬(c.ramBank ≤ 3 ∧ 0 < c.ramBanks) ∧ ¬(8 ≤ c.ramBank ∧ c.ramBank ≤ 12))
      ∧ (let c := (withCart 0x0F 0 8 true).cart
        ¬(c.ramBank ≤ 3 ∧ 0 < c.ramBanks) ∧ 8 ≤ c.ramBank ∧ c.ramBank ≤ 12)
      ∧ (withCart 0x0F 0 12 true).params.rtcModel = .shadow
      ∧ ({ Params.default with rtcModel := .draw } : Params).rtcModel = .draw := by decide
/-- VisibleLineTiming: lines 0 and 143 at both speeds; and the last cycle of each mode. -/
theorem test_witness_visible_line :
    (let s := atLine 0 .oamScan false
     lcdOn s = true ∧ s.ppu.mode = .oamScan ∧ s.ppu.dot = 0 ∧ s.ppu.ly.toNat < 144 ∧ 79 < 80 * 1)
      ∧ (let s := atLine 143 .oamScan true
        lcdOn s = true ∧ s.ppu.mode = .oamScan ∧ s.ppu.dot = 0 ∧ s.ppu.ly.toNat < 144
          ∧ s.ppu.ly = 143 ∧ s.latch.ds = true ∧ 80 * 2 ≤ 160 ∧ 160 < 252 * 2 ∧ 504 < 456 * 2)
      ∧ (let s := { atLine 4 .oamScan false with lcd := { State.reset.lcd with lyc := 5, statEn := 8 } }
        s.ppu.ly + 1 = s.lcd.lyc ∧ s.lcd.statEn.getLsbD 3 = true)
      ∧ (7 : BitVec 4).getLsbD 0 = true ∧ (7 : BitVec 4).getLsbD 1 = true
      ∧ (7 : BitVec 4).getLsbD 2 = true ∧ 251 < 252 * 1 ∧ 252 * 1 ≤ 252 ∧ 455 < 456 * 1 := by decide
/-- R465: from line 5's OAMScan with only STAT bit 3 enabled the request stands at 252 cycles and not
at 251; with only bit 5 it stands at 456 and not at 455; with only bit 4 it stands at the end of line
143 and not of line 142; with bit 5, at the end of line 153. -/
theorem test_stat_mode_requests :
    (let requested (ly : Byte) (mode : PpuMode) (en : BitVec 4) (n : Nat) :=
        let s := atLine ly mode false
        (ppuStep n { s with lcd := { s.lcd with statEn := en }, irq := ⟨0, 0⟩ }).irq.ifr.getLsbD 1
     (requested 5 .oamScan 1 251, requested 5 .oamScan 1 252) = (false, true)
      ∧ (requested 5 .oamScan 4 455, requested 5 .oamScan 4 456) = (false, true)
      ∧ (requested 142 .oamScan 2 456, requested 143 .oamScan 2 456) = (false, true)
      ∧ (requested 153 .vblank 4 455, requested 153 .vblank 4 456) = (false, true)) := by decide
/-- VBlankLineTiming: lines 144, 152 and 153. -/
theorem test_witness_vblank_line :
    (let s := atLine 144 .vblank false
     lcdOn s = true ∧ s.ppu.mode = .vblank ∧ s.ppu.dot = 0 ∧ s.ppu.ly.toNat < 153 ∧ 455 < 456 * 1)
      ∧ (atLine 152 .vblank true).ppu.ly.toNat < 153 ∧ 153 ≤ (atLine 153 .vblank true).ppu.ly.toNat := by
  decide
/-- TimersAndFrame: each clause. -/
theorem test_witness_timers :
    0 < 256 ∧ 0 < (base []).params.divPeriodDs ∧ (0x05 : Byte).getLsbD 2 = true
      ∧ (base []).timer.tac.getLsbD 2 = false ∧ (base []).timer.tima ≠ 0xFF
      ∧ (memWrite (base []) 0xFF05 0xFF).timer.tima = 0xFF
      ∧ (base []).coord.frameAcc + 70223 < 70224 ∧ 70224 ≤ (base []).coord.frameAcc + 70224 := by decide
/-- SpritePriority: the last column. -/
theorem test_witness_sprites : 159 < 160 := by decide
/-- ResetState: both profiles. -/
theorem test_witness_reset :
    Params.default.bootProfile = .dmg
      ∧ ({ Params.default with bootProfile := .cgb } : Params).bootProfile = .cgb := by decide
set_option maxRecDepth 20000 in
/-- InvariantKeptByStep: a state that meets the invariant and steps. -/
theorem test_witness_invariant :
    Inv { State.reset with tick := 1 } ∧ ∃ t, step { State.reset with tick := 1 } = .next t := by
  refine ⟨⟨⟨by decide, by decide, fun _ => by decide, by decide⟩, ⟨by decide, by decide, by decide⟩,
    ⟨by decide, by decide, by decide, by decide, by decide, fun row h => ?_⟩,
    ⟨by decide, by decide, by decide, by decide⟩⟩, ⟨_, rfl⟩⟩
  rw [List.eq_of_mem_replicate h, List.length_replicate]
set_option maxRecDepth 20000 in
/-- SaveStateRoundTrip: the cartridges agree and the state meets the invariant; a save state that fits,
and three that do not: another cartridge's, one with a short frame, and one with a short row. -/
theorem test_witness_save_state :
    (let s := { State.reset with tick := 1 }
     let u := base [0x3C]
     Inv s ∧ s.cart.cartType = u.cart.cartType ∧ s.cart.romBanks = u.cart.romBanks
        ∧ s.cart.ramBanks = u.cart.ramBanks ∧ s.cart.ram2K = u.cart.ram2K)
      ∧ (let d := dump State.reset
        d.fits (base [0x3C]) = true ∧ (dump (withCart 0x03 4 0 false)).fits (base []) = false
          ∧ { d with ppu := { d.ppu with frame := d.ppu.frame.tail } }.fits (base []) = false
          ∧ { d with ppu := { d.ppu with frame := [] :: d.ppu.frame.tail } }.fits (base []) = false) :=
  ⟨⟨test_witness_invariant.1, rfl, rfl, rfl, rfl⟩, rfl, rfl, rfl, rfl⟩

end Sys2Proof.Tests
end

section
/-! SUPPORT. What a write of memory can do, said once as a sequence of elementary actions
(20_memory.md R105 to R113, R120 to R128, R136 to R144). -/

namespace Sys2Proof.Machine

/-- `t` is `s` but for registers of the I/O region and outputs that no bound of the invariant and
nothing fixed for a run depends on. -/
structure RegistersOnly (s t : State) : Prop where
  writes : WritesOnly s t
  cart : t.cart = s.cart
  mem : t.mem = s.mem
  ppu : t.ppu = s.ppu
  lcdc : t.lcd.lcdc = s.lcd.lcdc
  timaAcc : t.timer.timaAcc = s.timer.timaAcc
  buttons : t.pad.buttons = s.pad.buttons

/-- The elementary actions that a write of memory is made of. -/
inductive WriteAct (s : State) : State → Prop where
  | registers {t : State} (h : RegistersOnly s t) : WriteAct s t
  | lcdc (v : Byte) : WriteAct s (writeLcdc s v)
  | ram (key : Nat) (v : Byte) (h : CartOk s.cart → s.cart.hasKey key = true) :
      WriteAct s (s.setRam key v)
  | bank (a : Nat) (v : Byte) : WriteAct s { s with cart := s.cart.writeRegister a v }
  | clock (r : Rtc) : WriteAct s { s with cart := { s.cart with rtc := r } }

/-- A sequence of elementary actions of writes. -/
abbrev WriteActs : State → State → Prop := Relation.ReflTransGen WriteAct

/-! ### Keys -/

/-- An address of one of the plain regions is a location of every cartridge's machine. -/
theorem Cart.hasKey_of_region (c : Cart) {a : Nat}
    (h : regionOf a ∈ [.vram, .wram, .oam, .io, .hram]) : c.hasKey a = true := by
  unfold regionOf at h
  split_ifs at h <;> simp at h
  all_goals simp [Cart.hasKey]; omega

/-- The echo range stores in WRAM (20_memory.md R110). -/
theorem Cart.hasKey_echo (c : Cart) (a : Nat) : c.hasKey (0xC000 + a % 0x2000) = true := by
  simp [Cart.hasKey]; omega

/-- OAM DMA stores in OAM (20_memory.md R139). -/
theorem Cart.hasKey_oam (c : Cart) {i : Nat} (h : i < 160) : c.hasKey (0xFE00 + i) = true := by
  simp [Cart.hasKey]; omega

/-- An offset below the external RAM's length is a location. -/
theorem Cart.hasKey_extKey {c : Cart} {offset : Nat} (h : offset < c.externalLength) :
    c.hasKey (extKey offset) = true := by simp [Cart.hasKey, extKey, h]

/-- In a bank below the count, the offset stays inside external RAM (20_memory.md R123, R151). -/
theorem Cart.ramOffset_lt {c : Cart} {bank : Nat} (a : Nat) (h : bank < c.ramBanks) :
    c.ramOffset bank a < c.externalLength := by
  simp only [Cart.ramOffset, Cart.externalLength]
  split <;> omega

/-- Where the bank indices are below their counts, an access to external RAM stays inside it. -/
theorem Cart.extTarget_ram_lt {c : Cart} {a offset : Nat} (hc : CartOk c)
    (h : c.extTarget a = .ram offset) : offset < c.externalLength := by
  obtain ⟨-, -, hbank, -⟩ := hc
  cases hm : c.mapper <;> simp only [Cart.extTarget, hm] at h
  case mapper0 =>
    split at h <;> cases h
    exact Cart.ramOffset_lt a ‹_›
  case mapper3 =>
    split_ifs at h with hoff hram
    cases h
    exact Cart.ramOffset_lt a (Nat.mod_lt _ hram.2)
  all_goals
    split at h <;> cases h
    rename_i hon
    have hpos : 0 < c.ramBanks := by simpa using (Bool.and_eq_true_iff.mp hon).2
    have hlt := hbank (by simp [hm])
    exact Cart.ramOffset_lt a (by omega)

/-! ### The actions of a write -/

theorem writeIo_acts (s : State) (a : Nat) (v : Byte) (ha : s.cart.hasKey a = true) :
    WriteActs s (writeIo s a v) := by
  unfold writeIo
  cases ioRegOf (a % 0x100)
  case lcdc => exact .single (.lcdc v)
  case plain => exact .single (.ram a v fun _ => ha)
  case audio =>
    exact .tail (.single (.ram a v fun _ => ha)) (.registers ⟨rfl, rfl, rfl, rfl, rfl, rfl, rfl⟩)
  case p1 =>
    change WriteActs s (writeP1 s v)
    by_cases h : v.extractLsb' 4 2 = s.pad.sel
    · rw [writeP1, if_pos h]
    · rw [writeP1, if_neg h]
      exact .single (.registers ⟨rfl, rfl, rfl, rfl, rfl, rfl, rfl⟩)
  case key1 =>
    change WriteActs s (writeKey1 s v)
    unfold writeKey1
    split <;> exact .single (.registers ⟨rfl, rfl, rfl, rfl, rfl, rfl, rfl⟩)
  all_goals exact .single (.registers ⟨rfl, rfl, rfl, rfl, rfl, rfl, rfl⟩)

theorem oamDma_acts (s : State) (v : Byte) : WriteActs s (oamDma s v) := by
  have copies (l : List Nat) (hl : ∀ i ∈ l, i < 160) (t : State) :
      WriteActs t (l.foldl (oamDmaByte v) t) := by
    induction l generalizing t with
    | nil => exact .refl
    | cons i rest ih =>
      have hi : t.cart.hasKey (0xFE00 + i) = true := t.cart.hasKey_oam (hl i List.mem_cons_self)
      exact .head (.ram _ _ fun _ => hi) (ih (fun j hj => hl j (List.mem_cons_of_mem _ hj)) _)
  exact copies _ (fun i hi => List.mem_range.mp hi) s

theorem writeExt_acts (s : State) (a : Nat) (v : Byte) : WriteActs s (writeExt s a v) := by
  unfold writeExt
  split
  case h_1 => exact .refl
  case h_2 offset htarget =>
    exact .single (.ram _ _ fun hc => Cart.hasKey_extKey (Cart.extTarget_ram_lt hc htarget))
  case h_3 => exact .single (.clock _)

/-- Every write of memory is a sequence of elementary actions. -/
theorem memWrite_acts (s : State) (addr : Word) (v : Byte) : WriteActs s (memWrite s addr v) := by
  have plain (h : regionOf addr.toNat ∈ [.vram, .wram, .oam, .io, .hram]) :
      WriteActs s (s.setRam addr.toNat v) := .single (.ram _ _ fun _ => s.cart.hasKey_of_region h)
  cases h : regionOf addr.toNat
  case rom => rw [memWrite_rom _ _ h]; exact .single (.bank _ v)
  case vram => rw [memWrite_vram _ _ h]; exact plain (by simp [h])
  case external => rw [memWrite_external _ _ h]; exact writeExt_acts s _ v
  case wram => rw [memWrite_wram _ _ h]; exact plain (by simp [h])
  case echo => rw [memWrite_echo _ _ h]; exact .single (.ram _ _ fun _ => s.cart.hasKey_echo _)
  case oam => rw [memWrite_oam _ _ h]; exact plain (by simp [h])
  case unusable => rw [memWrite_unusable _ _ h]
  case io =>
    have hio := writeIo_acts s addr.toNat v (s.cart.hasKey_of_region (by simp [h]))
    rw [memWrite_io _ _ h, writeIoAction]
    split
    · exact hio.trans (oamDma_acts _ v)
    · exact hio
  case hram => rw [memWrite_hram _ _ h]; exact plain (by simp [h])
  case ie => rw [memWrite_ie _ _ h]; exact .single (.registers ⟨rfl, rfl, rfl, rfl, rfl, rfl, rfl⟩)

end Sys2Proof.Machine
end

section
/-! SUPPORT. What no step changes, and that every write of memory and every CPU step leave it alone
(10_state.md R41, 60_exceptions.md R505). -/

namespace Sys2Proof.Machine

/-- The cartridge parameters read from the image's header (20_memory.md R150, R151). -/
def Cart.header (c : Cart) : Byte × Nat × Nat × Bool :=
  (c.cartType, c.romBanks, c.ramBanks, c.ram2K)

/-- What no step changes: the arguments of the machine (00_scope.md R8) and the two stop fields. -/
def State.fixed (s : State) :
    Memory × Params × Buttons × Option Fault × Option Refusal × Byte × Nat × Nat × Bool :=
  (s.rom, s.params, s.pad.buttons, s.fault, s.refused, s.cart.header)

/-! ### The cartridge controller -/

theorem Cart.recompute1_header (c : Cart) : c.recompute1.header = c.header := by
  unfold Cart.recompute1
  split <;> rfl

theorem Cart.write1_header (c : Cart) (a : Nat) (v : Byte) : (c.write1 a v).header = c.header := by
  rw [Cart.write1, Cart.recompute1_header]
  split_ifs <;> rfl

theorem Cart.write3_header (c : Cart) (a : Nat) (v : Byte) : (c.write3 a v).header = c.header := by
  unfold Cart.write3
  split_ifs <;> rfl

theorem Cart.write5_header (c : Cart) (a : Nat) (v : Byte) : (c.write5 a v).header = c.header := by
  unfold Cart.write5
  split_ifs <;> rfl

/-- A write to the controller's registers keeps the header's values. -/
theorem Cart.writeRegister_header (c : Cart) (a : Nat) (v : Byte) :
    (c.writeRegister a v).header = c.header := by
  unfold Cart.writeRegister
  split
  · rfl
  · exact c.write1_header a v
  · exact c.write3_header a v
  · exact c.write5_header a v

/-! ### Writes of memory -/

theorem writeLcdc_fixed (s : State) (v : Byte) : (writeLcdc s v).fixed = s.fixed := by
  unfold writeLcdc
  split <;> rfl

theorem RegistersOnly.fixed {s t : State} (h : RegistersOnly s t) : t.fixed = s.fixed := by
  have e := h.writes
  simp only [WritesOnly] at e
  rw [State.fixed, h.cart, h.buttons, e]
  rfl

theorem WriteAct.fixed {s t : State} (h : WriteAct s t) : t.fixed = s.fixed := by
  cases h with
  | registers h => exact h.fixed
  | lcdc v => exact writeLcdc_fixed s v
  | ram key v _ => rfl
  | bank a v => simp only [State.fixed, Cart.writeRegister_header]
  | clock r => rfl

theorem WriteActs.fixed {s t : State} (h : WriteActs s t) : t.fixed = s.fixed := by
  induction h with
  | refl => rfl
  | tail _ act ih => exact act.fixed.trans ih

theorem memWrite_fixed (s : State) (a : Word) (v : Byte) : (memWrite s a v).fixed = s.fixed :=
  WriteActs.fixed (memWrite_acts s a v)

/-! ### The CPU step -/

/-- An effect of an effect is an effect. -/
theorem Effect.trans {s t u : State} (h : Effect s t) (h' : Effect t u) : Effect s u := by
  induction h' with
  | start => exact h
  | regs r _ ih => exact ih.regs r
  | cycles n hn _ ih => exact ih.cycles n hn
  | latch l hl _ ih => exact ih.latch l hl
  | write a v _ ih => exact ih.write a v
  | speed _ ih => exact ih.speed

/-- Clearing a request does what a store to IF at 0xFF0F does. -/
theorem clearRequest_eq_memWrite (s : State) (k : Nat) :
    clearRequest s k = memWrite s 0xFF0F (s.irq.ifr &&& ~~~(1#8 <<< k)) := rfl

/-- Taking an interrupt is an effect as an instruction's is. -/
theorem dispatchInterrupt_effect (s : State) : Effect s (dispatchInterrupt s) := by
  rw [dispatchInterrupt, clearRequest_eq_memWrite]
  refine EffectOf.finish _ _ (by decide) (Effect.write _ _ (EffectOf.push16 _ ?_))
  exact Effect.start.latch _ rfl

theorem promoteIme_effect (b : Bool) (s : State) : Effect s (promoteIme b s) := by
  unfold promoteIme
  split
  · exact Effect.start.latch _ rfl
  · exact .start

theorem promoteIme_out (b : Bool) (s : State) : (promoteIme b s).out = s.out := by
  unfold promoteIme
  split <;> rfl

theorem fetchAndExecute_effect (s : State) : AnswerEffect s (fetchAndExecute s) := by
  intro t h
  unfold fetchAndExecute at h
  split at h
  · obtain ⟨u, hu, rfl⟩ := mapNext_eq_next h
    obtain ⟨heff, hcycles⟩ := exec_effect _ s u hu
    exact ⟨heff.trans (promoteIme_effect _ u), by rwa [promoteIme_out]⟩
  · cases h

/-- Everything a CPU step can do: an effect as an instruction's is, in 4 to 24 cycles. -/
theorem cpuStep_effect (s : State) : AnswerEffect s (cpuStep s) := by
  intro t h
  unfold cpuStep at h
  split_ifs at h
  · cases h
    exact ⟨dispatchInterrupt_effect s, show 4 ≤ dispatchCycles ∧ dispatchCycles ≤ 24 by decide⟩
  · cases h
    exact ⟨Effect.start.cycles haltedCycles (by decide),
      show 4 ≤ haltedCycles ∧ haltedCycles ≤ 24 by decide⟩
  · obtain ⟨heff, hcycles⟩ := fetchAndExecute_effect s.wake t h
    exact ⟨(EffectOf.wake .start).trans heff, hcycles⟩

theorem Effect.fixed {s t : State} (h : Effect s t) : t.fixed = s.fixed := by
  induction h with
  | start => rfl
  | write a v _ ih => exact (memWrite_fixed _ a v).trans ih
  | regs _ _ ih | cycles _ _ _ ih | latch _ _ _ ih | speed _ ih => exact ih

/-- A next state of `step` is one of the CPU step, reached in at most 24 cycles, with the devices
advanced by those cycles. -/
theorem step_eq_next {s t : State} (h : step s = .next t) :
    ∃ u, Effect (beginStep s) u ∧ u.out.cycles ≤ 24 ∧ t = advanceDevices u.out.cycles u := by
  unfold step stepOrStopped at h
  split at h
  · cases h
  · cases h
  · obtain ⟨u, hu, rfl⟩ := mapNext_eq_next h
    obtain ⟨heff, -, hmax⟩ := cpuStep_effect _ u hu
    exact ⟨u, heff, hmax, rfl⟩

end Sys2Proof.Machine
end

section
/-! SUPPORT. The devices' updates: what each leaves alone, and the bounds each restores
(60_exceptions.md R450 to R467, R505, R506). -/

namespace Sys2Proof.Machine

/-- `t` is `s` but for the PPU and the interrupt requests. -/
def PpuOnly (s t : State) : Prop := t = { s with ppu := t.ppu, irq := t.irq }

/-- `t` is `s` but for the timer registers and the interrupt requests. -/
def TimerOnly (s t : State) : Prop := t = { s with timer := t.timer, irq := t.irq }

theorem PpuOnly.after {s t u : State} (h' : PpuOnly t u) (h : PpuOnly s t) : PpuOnly s u := by
  rw [PpuOnly, h', h]

theorem TimerOnly.after {s t u : State} (h' : TimerOnly t u) (h : TimerOnly s t) :
    TimerOnly s u := by rw [TimerOnly, h', h]

/-! ### The mode machine -/

theorem requestStat_ppuOnly (s : State) (en : Nat) : PpuOnly s (requestStat s en) := by
  unfold requestStat
  split <;> rfl

@[simp] theorem requestStat_ppu (s : State) (en : Nat) : (requestStat s en).ppu = s.ppu := by
  unfold requestStat
  split <;> rfl

theorem enterMode_ppuOnly (m : PpuMode) (s : State) : PpuOnly s (enterMode m s) := by
  cases m with
  | vramAccess => rfl
  | oamScan | hblank | vblank => exact (requestStat_ppuOnly _ _).after rfl

/-- Entering a mode sets the mode, and the window's trigger at most. -/
theorem enterMode_ppu (m : PpuMode) (s : State) :
    ∃ w, (enterMode m s).ppu = { s.ppu with mode := m, wyTrig := w } := by
  cases m <;> simp [enterMode]

section
variable (m : PpuMode) (s : State)
@[simp] theorem enterMode_mode : (enterMode m s).ppu.mode = m := by
  obtain ⟨w, hw⟩ := enterMode_ppu m s
  rw [hw]
@[simp] theorem enterMode_ly : (enterMode m s).ppu.ly = s.ppu.ly := by
  obtain ⟨w, hw⟩ := enterMode_ppu m s
  rw [hw]
@[simp] theorem enterMode_dot : (enterMode m s).ppu.dot = s.ppu.dot := by
  obtain ⟨w, hw⟩ := enterMode_ppu m s
  rw [hw]
@[simp] theorem enterMode_frame : (enterMode m s).ppu.frame = s.ppu.frame := by
  obtain ⟨w, hw⟩ := enterMode_ppu m s
  rw [hw]
end

theorem setLy_ppuOnly (v : Byte) (s : State) : PpuOnly s (setLy v s) := by
  unfold setLy
  split
  · exact (requestStat_ppuOnly _ _).after rfl
  · rfl

@[simp] theorem setLy_ppu (v : Byte) (s : State) :
    (setLy v s).ppu = { s.ppu with ly := v, coinc := v == s.lcd.lyc } := by
  simp only [setLy]
  split <;> simp

theorem endMode_ppuOnly (s : State) : PpuOnly s (endMode s) := by
  simp only [endMode]
  split
  · exact enterMode_ppuOnly _ _
  · exact (enterMode_ppuOnly _ _).after rfl
  · split
    · exact (enterMode_ppuOnly _ _).after (setLy_ppuOnly _ _)
    · exact (enterMode_ppuOnly _ _).after (setLy_ppuOnly _ _)
  · split
    · exact setLy_ppuOnly _ _
    · exact (enterMode_ppuOnly _ _).after ((setLy_ppuOnly _ _).after rfl)

/-- The end of a mode leaves the cycles that remain as they are. -/
theorem endMode_dot (s : State) : (endMode s).ppu.dot = s.ppu.dot := by
  simp only [endMode]
  split
  · exact enterMode_dot _ _
  · exact enterMode_dot _ _
  · split <;> simp
  · split <;> simp [newFrame]

theorem ppuLoop_ppuOnly (fuel : Nat) (s : State) : PpuOnly s (ppuLoop fuel s) := by
  induction fuel generalizing s with
  | zero => rfl
  | succ fuel ih =>
    rw [ppuLoop]
    split
    · exact (ih _).after ((endMode_ppuOnly _).after rfl)
    · rfl

theorem ppuStep_ppuOnly (n : Nat) (s : State) : PpuOnly s (ppuStep n s) := by
  unfold ppuStep
  split
  · exact (ppuLoop_ppuOnly _ _).after rfl
  · rfl

/-! ### DIV, TIMA and the frame counter -/

theorem timaTick_timerOnly (s : State) : TimerOnly s (timaTick s) := by
  unfold timaTick
  split <;> rfl

theorem timaTicks_timerOnly (k : Nat) (s : State) : TimerOnly s (timaTicks k s) := by
  induction k generalizing s with
  | zero => rfl
  | succ k ih => exact (ih _).after (timaTick_timerOnly s)

theorem timaStep_timerOnly (n : Nat) (s : State) : TimerOnly s (timaStep n s) := by
  unfold timaStep
  split
  · exact (timaTicks_timerOnly _ _).after rfl
  · rfl

/-- A tick of TIMA leaves both accumulators as they are. -/
theorem timaTicks_accumulators (k : Nat) (s : State) :
    (timaTicks k s).timer.divAcc = s.timer.divAcc
      ∧ (timaTicks k s).timer.timaAcc = s.timer.timaAcc := by
  induction k generalizing s with
  | zero => exact ⟨rfl, rfl⟩
  | succ k ih =>
    have tick : (timaTick s).timer.divAcc = s.timer.divAcc
        ∧ (timaTick s).timer.timaAcc = s.timer.timaAcc := by
      unfold timaTick
      split <;> exact ⟨rfl, rfl⟩
    exact ⟨(ih _).1.trans tick.1, (ih _).2.trans tick.2⟩

theorem divStep_timerOnly (n : Nat) (s : State) : TimerOnly s (divStep n s) := rfl

/-- The frame counter's update changes the coordinator only. -/
theorem frameStep_coordOnly (n : Nat) (s : State) :
    frameStep n s = { s with coord := (frameStep n s).coord } := by
  simp only [frameStep]
  split <;> rfl

/-! ### What no device changes -/

theorem PpuOnly.fixed {s t : State} (h : PpuOnly s t) : t.fixed = s.fixed := by rw [h]; rfl
theorem TimerOnly.fixed {s t : State} (h : TimerOnly s t) : t.fixed = s.fixed := by rw [h]; rfl

theorem advanceDevices_fixed (n : Nat) (s : State) : (advanceDevices n s).fixed = s.fixed :=
  calc (advanceDevices n s).fixed
    _ = (timaStep n (divStep n (ppuStep n s))).fixed := by
      rw [advanceDevices, frameStep_coordOnly]; rfl
    _ = (divStep n (ppuStep n s)).fixed := (timaStep_timerOnly _ _).fixed
    _ = (ppuStep n s).fixed := (divStep_timerOnly _ _).fixed
    _ = s.fixed := (ppuStep_ppuOnly _ _).fixed

/-- No step changes what is fixed for a run. -/
theorem step_fixed {s t : State} (h : step s = .next t) : t.fixed = s.fixed := by
  obtain ⟨u, heff, -, rfl⟩ := step_eq_next h
  exact (advanceDevices_fixed _ u).trans heff.fixed

end Sys2Proof.Machine
end

section
/-! SUPPORT. The invariant, through the CPU step and through each device's update (10_state.md R70
to R76, 20_memory.md R129, 60_exceptions.md R469). -/

namespace Sys2Proof.Machine

/-- The PPU's own part of the invariant: line, mode and frame buffer (10_state.md R71, R72). -/
structure Ppu.LinesOk (p : Ppu) : Prop where
  ly_lt : p.ly.toNat < 154
  vblank_iff : p.mode = .vblank ↔ 144 ≤ p.ly.toNat
  rows : p.frame.length = 144
  columns : ∀ row ∈ p.frame, row.length = 160

/-- While the LCD is off the PPU is stopped (60_exceptions.md R469). -/
def StoppedWhenOff (s : State) : Prop :=
  lcdOn s = false → s.ppu.mode = .hblank ∧ s.ppu.ly = 0 ∧ s.ppu.dot = 0

/-- The invariant between the CPU step and the devices' updates: `Inv` without the bounds of `dot`
and of DIV's accumulator, which a speed switch can break and the devices' updates restore. -/
structure Midway (s : State) : Prop where
  cart : CartOk s.cart
  memory : MemoryOk s
  lines : s.ppu.LinesOk
  stopped : StoppedWhenOff s
  period : 0 < s.params.divPeriodDs
  timaAcc : s.timer.timaAcc < 1024
  frameAcc : s.coord.frameAcc < 2 * 70224

theorem Inv.midway {s : State} (h : Inv s) : Midway s := by
  obtain ⟨hcart, hmem, ⟨hly, hmode, -, hoff, hrows, hcols⟩, hperiod, -, htima, hframe⟩ := h
  exact ⟨hcart, hmem, ⟨hly, hmode, hrows, hcols⟩, hoff, hperiod, htima, hframe⟩

/-- `Inv` is `Midway` and the two bounds it leaves out. -/
theorem Midway.inv {s : State} (h : Midway s) (hdot : s.ppu.dot < modeWidth s)
    (hdiv : s.timer.divAcc < divPeriod s) : Inv s :=
  ⟨h.cart, h.memory,
    ⟨h.lines.ly_lt, h.lines.vblank_iff, hdot, h.stopped, h.lines.rows, h.lines.columns⟩,
    h.period, hdiv, h.timaAcc, h.frameAcc⟩

/-- Another line and mode with the same frame buffer. -/
theorem Ppu.LinesOk.goTo {p q : Ppu} (h : p.LinesOk) (hly : q.ly.toNat < 154)
    (hmode : q.mode = .vblank ↔ 144 ≤ q.ly.toNat) (hframe : q.frame = p.frame) : q.LinesOk :=
  ⟨hly, hmode, hframe ▸ h.rows, hframe ▸ h.columns⟩

/-! ### Writes of memory -/

theorem CartOk.recompute1 {c : Cart} (h : CartOk c) : CartOk c.recompute1 := by
  obtain ⟨hpos, -, -, h2K⟩ := h
  unfold Cart.recompute1
  split
  · exact ⟨hpos, Nat.mod_lt _ hpos, fun _ => Nat.mod_lt _ (by omega), h2K⟩
  · exact ⟨hpos, Nat.mod_lt _ hpos, fun _ => show 0 < _ by omega, h2K⟩

theorem CartOk.recompute5 {c : Cart} (h : CartOk c) : CartOk c.recompute5 :=
  ⟨h.1, Nat.mod_lt _ h.1, h.2.2⟩

theorem CartOk.write1 {c : Cart} (a : Nat) (v : Byte) (h : CartOk c) : CartOk (c.write1 a v) := by
  refine CartOk.recompute1 ?_
  split_ifs <;> exact h

theorem CartOk.write3 {c : Cart} (a : Nat) (v : Byte) (hm : c.mapper = .mapper3) (h : CartOk c) :
    CartOk (c.write3 a v) := by
  obtain ⟨hpos, hbank, hram, h2K⟩ := h
  simp only [Cart.write3]
  split_ifs
  · exact ⟨hpos, hbank, hram, h2K⟩
  · exact ⟨hpos, Nat.mod_lt _ hpos, hram, h2K⟩
  · exact ⟨hpos, Nat.mod_lt _ hpos, hram, h2K⟩
  · exact ⟨hpos, hbank, fun hne => absurd hm hne, h2K⟩
  · exact ⟨hpos, hbank, hram, h2K⟩

theorem CartOk.write5 {c : Cart} (a : Nat) (v : Byte) (h : CartOk c) : CartOk (c.write5 a v) := by
  obtain ⟨hpos, hbank, hram, h2K⟩ := h
  unfold Cart.write5
  split_ifs
  · exact ⟨hpos, hbank, hram, h2K⟩
  · exact CartOk.recompute5 ⟨hpos, hbank, hram, h2K⟩
  · exact CartOk.recompute5 ⟨hpos, hbank, hram, h2K⟩
  · exact ⟨hpos, hbank, fun _ => Nat.mod_lt _ (by omega), h2K⟩
  · exact ⟨hpos, hbank, fun _ => Nat.mod_lt _ (by omega), h2K⟩
  · exact ⟨hpos, hbank, hram, h2K⟩

/-- A write to the controller's registers keeps the bank indices below their counts
(20_memory.md R129). -/
theorem CartOk.writeRegister {c : Cart} (a : Nat) (v : Byte) (h : CartOk c) :
    CartOk (c.writeRegister a v) := by
  unfold Cart.writeRegister
  split
  · exact h
  · exact h.write1 a v
  case h_3 hm => exact h.write3 a v hm
  · exact h.write5 a v

/-- The locations of a cartridge's machine depend on its header only. -/
theorem Cart.hasKey_congr {c d : Cart} (h : d.header = c.header) (key : Nat) :
    d.hasKey key = c.hasKey key := by
  simp only [Cart.header, Prod.mk.injEq] at h
  obtain ⟨-, -, hbanks, h2K⟩ := h
  have hlen : d.externalLength = c.externalLength := by
    rw [Cart.externalLength, Cart.externalLength, hbanks, h2K]
  rw [Cart.hasKey, Cart.hasKey, hlen]

/-- Listing a byte at one of the machine's locations keeps the memory part. -/
theorem MemoryOk.setRam {s : State} {key : Nat} (v : Byte) (h : MemoryOk s)
    (hkey : s.cart.hasKey key = true) : MemoryOk (s.setRam key v) := by
  obtain ⟨hwf, hrom, hkeys⟩ := h
  refine ⟨Memory.store_wf _ _ hwf, hrom, fun p hp => ?_⟩
  rcases Memory.mem_store hp with rfl | hp
  · exact hkey
  · exact hkeys p hp

theorem Ppu.LinesOk.switchOff {p : Ppu} (h : p.LinesOk) : p.switchOff.LinesOk :=
  h.goTo (show 0 < 154 by decide) (show PpuMode.hblank = .vblank ↔ 144 ≤ 0 by decide) rfl

theorem Ppu.LinesOk.switchOn {p : Ppu} (lyc wy : Byte) (h : p.LinesOk) :
    (p.switchOn lyc wy).LinesOk :=
  h.goTo (show 0 < 154 by decide) (show PpuMode.oamScan = .vblank ↔ 144 ≤ 0 by decide) rfl

/-- A write to LCDC leaves the PPU in one of the states the invariant allows: stopped where the LCD
is now off, at the start of a frame where it was switched on (60_exceptions.md R469). -/
theorem Midway.writeLcdc {s : State} (v : Byte) (h : Midway s) : Midway (writeLcdc s v) := by
  obtain ⟨hcart, hmem, hlines, hstop, hperiod, htima, hframe⟩ := h
  unfold Machine.writeLcdc
  split
  · exact ⟨hcart, hmem, hlines.switchOff, fun _ => ⟨rfl, rfl, rfl⟩, hperiod, htima, hframe⟩
  case h_2 hv =>
    have hon : v.getLsbD 7 ≠ false := by simp [hv]
    exact ⟨hcart, hmem, hlines.switchOn _ _, fun hoff => absurd hoff hon, hperiod, htima, hframe⟩
  case h_3 hne _ =>
    refine ⟨hcart, hmem, hlines, fun hoff => hstop ?_, hperiod, htima, hframe⟩
    have hv : v.getLsbD 7 = false := hoff
    exact Bool.eq_false_iff.mpr fun hs => hne hs hv

/-- Registers that the invariant does not depend on. -/
theorem Midway.registers {s t : State} (hr : RegistersOnly s t) (h : Midway s) : Midway t := by
  have e := hr.writes
  simp only [WritesOnly] at e
  have hrom : t.rom = s.rom := by rw [e]
  have hparams : t.params = s.params := by rw [e]
  have hcoord : t.coord = s.coord := by rw [e]
  have hlcd : lcdOn t = lcdOn s := by rw [lcdOn, lcdOn, hr.lcdc]
  refine ⟨?_, ?_, ?_, ?_, ?_, ?_, ?_⟩
  · rw [hr.cart]; exact h.cart
  · rw [MemoryOk, hr.mem, hrom, hr.cart]; exact h.memory
  · rw [hr.ppu]; exact h.lines
  · rw [StoppedWhenOff, hlcd, hr.ppu]; exact h.stopped
  · rw [hparams]; exact h.period
  · rw [hr.timaAcc]; exact h.timaAcc
  · rw [hcoord]; exact h.frameAcc

theorem Midway.writeAct {s t : State} (act : WriteAct s t) (h : Midway s) : Midway t := by
  cases act with
  | registers hr => exact h.registers hr
  | lcdc v => exact h.writeLcdc v
  | ram key v hkey => exact { h with memory := h.memory.setRam v (hkey h.cart) }
  | bank a v =>
    obtain ⟨hwf, hrom, hkeys⟩ := h.memory
    exact { h with
      cart := h.cart.writeRegister a v
      memory := ⟨hwf, hrom, fun p hp => by
        rw [Cart.hasKey_congr (s.cart.writeRegister_header a v)]; exact hkeys p hp⟩ }
  | clock r => exact { h with }

theorem Midway.writeActs {s t : State} (acts : WriteActs s t) (h : Midway s) : Midway t := by
  induction acts with
  | refl => exact h
  | tail _ act ih => exact ih.writeAct act

/-- A write of memory keeps the invariant, wherever it goes. -/
theorem Midway.memWrite {s : State} (a : Word) (v : Byte) (h : Midway s) :
    Midway (memWrite s a v) := h.writeActs (memWrite_acts s a v)

/-! ### The CPU step -/

theorem Midway.beginStep {s : State} (h : Midway s) : Midway (beginStep s) := { h with }

/-- Whatever an instruction does keeps the invariant but for the two bounds. -/
theorem Midway.effect {s t : State} (heff : Effect s t) (h : Midway s) : Midway t := by
  induction heff with
  | start => exact h
  | write a v _ ih => exact ih.memWrite a v
  | regs _ _ ih | cycles _ _ _ ih | latch _ _ _ ih | speed _ ih => exact { ih with }

/-! ### The PPU -/

/-- Drawing a pixel keeps the length of the line. -/
theorem drawPixel_length (s : State) (y : Nat) (p : Sprite) (line : List Shade) (i : Nat) :
    (drawPixel s y p line i).length = line.length := by
  simp only [drawPixel]
  split_ifs <;> simp

/-- A fold whose every step keeps the length of a list keeps it. -/
theorem foldl_length {α β : Type} {f : List α → β → List α} (h : ∀ l x, (f l x).length = l.length)
    (xs : List β) (l : List α) : (xs.foldl f l).length = l.length := by
  induction xs generalizing l with
  | nil => rfl
  | cons x xs ih => exact (ih _).trans (h l x)

/-- A line drawn is 160 shades long (60_exceptions.md R475). -/
theorem lineShades_length (s : State) (y : Nat) : (lineShades s y).length = 160 := by
  have sprite (line : List Shade) (p : Sprite) : (drawSprite s y line p).length = line.length :=
    foldl_length (drawPixel_length s y p) _ line
  rw [lineShades, foldl_length sprite, List.length_map, List.length_range]

theorem Ppu.LinesOk.renderLine {s : State} (y : Nat) (h : s.ppu.LinesOk) :
    (renderLine s y).ppu.LinesOk where
  ly_lt := h.ly_lt
  vblank_iff := h.vblank_iff
  rows := (List.length_set ..).trans h.rows
  columns row hrow := by
    rcases List.mem_or_eq_of_mem_set hrow with hold | rfl
    · exact h.columns row hold
    · exact lineShades_length s y

/-- Outside VBlank the line is one of the 144 drawn. -/
theorem Ppu.LinesOk.ly_lt_of_drawing {p : Ppu} (h : p.LinesOk) (hm : p.mode ≠ .vblank) :
    p.ly.toNat < 144 := Nat.lt_of_not_le fun hle => hm (h.vblank_iff.mpr hle)

/-- The end of each mode keeps the line below 154 and the mode VBlank exactly from line 144
(60_exceptions.md R461). -/
theorem Ppu.LinesOk.endMode {s : State} (h : s.ppu.LinesOk) : (endMode s).ppu.LinesOk := by
  have next_ly (hlt : s.ppu.ly.toNat < 153) : (s.ppu.ly + 1).toNat = s.ppu.ly.toNat + 1 := by
    simp; omega
  cases hm : s.ppu.mode with
  | oamScan =>
    have hly := h.ly_lt_of_drawing (by simp [hm])
    simp only [Machine.endMode, hm]
    exact h.goTo (by simp; omega) (by simp; omega) (by simp)
  | vramAccess =>
    have hly := h.ly_lt_of_drawing (by simp [hm])
    simp only [Machine.endMode, hm]
    refine (h.renderLine s.ppu.ly.toNat).goTo ?_ ?_ (by simp)
    all_goals simp [Machine.renderLine]; omega
  | hblank =>
    have hly := h.ly_lt_of_drawing (by simp [hm])
    have hnext := next_ly (by omega)
    simp only [Machine.endMode, hm]
    split
    case isTrue h144 =>
      have : (s.ppu.ly + 1).toNat = 144 := by simpa using congrArg BitVec.toNat h144
      exact h.goTo (by simp; omega) (by simp; omega) (by simp)
    case isFalse h144 =>
      have : (s.ppu.ly + 1).toNat ≠ 144 := fun e => h144 (BitVec.eq_of_toNat_eq (by simpa using e))
      exact h.goTo (by simp; omega) (by simp; omega) (by simp)
  | vblank =>
    have hly := h.vblank_iff.mp hm
    simp only [Machine.endMode, hm]
    split
    case isTrue hlt =>
      have hnext := next_ly hlt
      exact h.goTo (by simp; omega) (by simp [hm]; omega) (by simp)
    case isFalse => exact h.goTo (by simp) (by simp) (by simp [newFrame])

/-- The shortest mode is OAMScan at normal speed (60_exceptions.md R460). -/
theorem modeWidth_ge (s : State) : 80 ≤ modeWidth s := by
  unfold modeWidth speed
  cases s.ppu.mode <;> simp only [PpuMode.baseWidth] <;> split <;> omega

/-- The loop keeps the lines, and with a pass for each 80 cycles of `dot` it ends with `dot` below
the mode's width (60_exceptions.md R461). -/
theorem ppuLoop_linesOk {fuel : Nat} {s : State} (h : s.ppu.LinesOk)
    (hfuel : s.ppu.dot < 80 * fuel) :
    (ppuLoop fuel s).ppu.LinesOk ∧ (ppuLoop fuel s).ppu.dot < modeWidth (ppuLoop fuel s) := by
  induction fuel generalizing s with
  | zero => omega
  | succ fuel ih =>
    rw [ppuLoop]
    split
    case isTrue hle =>
      have hw := modeWidth_ge s
      refine ih (Ppu.LinesOk.endMode (h.goTo h.ly_lt h.vblank_iff rfl)) ?_
      rw [endMode_dot]
      show s.ppu.dot - modeWidth s < 80 * fuel
      omega
    case isFalse hlt => exact ⟨h, by omega⟩

/-- The PPU's update keeps the invariant and brings `dot` below the mode's width. -/
theorem Midway.ppuStep {s : State} (n : Nat) (h : Midway s) :
    Midway (ppuStep n s) ∧ (ppuStep n s).ppu.dot < modeWidth (ppuStep n s) := by
  have hframe := ppuStep_ppuOnly n s
  cases hon : lcdOn s with
  | false =>
    obtain ⟨-, -, hdot⟩ := h.stopped hon
    have hw := modeWidth_ge s
    rw [Machine.ppuStep, if_neg (by simp [hon])]
    exact ⟨h, by omega⟩
  | true =>
    have hloop : (Machine.ppuStep n s).ppu.LinesOk
        ∧ (Machine.ppuStep n s).ppu.dot < modeWidth (Machine.ppuStep n s) := by
      rw [Machine.ppuStep, if_pos hon]
      have hlines := h.lines.goTo (q := { s.ppu with dot := s.ppu.dot + n })
        h.lines.ly_lt h.lines.vblank_iff rfl
      exact ppuLoop_linesOk hlines (by simp only; omega)
    have hstopped : StoppedWhenOff (Machine.ppuStep n s) := by
      intro hoff
      rw [hframe] at hoff
      exact absurd (hon.symm.trans hoff) (by decide)
    refine ⟨?_, hloop.2⟩
    rw [hframe]
    exact { h with lines := hloop.1, stopped := hframe ▸ hstopped }

/-! ### The counters -/

theorem divPeriod_pos {s : State} (h : Midway s) : 0 < divPeriod s := by
  have := h.period
  unfold divPeriod
  split <;> omega

/-- DIV's update keeps the invariant and brings its accumulator below the period
(60_exceptions.md R450). -/
theorem Midway.divStep {s : State} (n : Nat) (h : Midway s) :
    Midway (divStep n s) ∧ (divStep n s).timer.divAcc < divPeriod (divStep n s) :=
  ⟨{ h with }, Nat.mod_lt _ (divPeriod_pos h)⟩

theorem timaPeriod_bounds (tac : Byte) : 0 < timaPeriod tac ∧ timaPeriod tac ≤ 1024 := by
  unfold timaPeriod
  split <;> decide

/-- TIMA's update keeps its accumulator below the largest period, and DIV's as it is
(60_exceptions.md R451). -/
theorem timaStep_accumulators {s : State} (n : Nat) (h : s.timer.timaAcc < 1024) :
    (timaStep n s).timer.timaAcc < 1024 ∧ (timaStep n s).timer.divAcc = s.timer.divAcc := by
  simp only [timaStep]
  split
  · obtain ⟨hdiv, htima⟩ := timaTicks_accumulators ((s.timer.timaAcc + n) / timaPeriod s.timer.tac)
      { s with
        timer := { s.timer with timaAcc := (s.timer.timaAcc + n) % timaPeriod s.timer.tac } }
    obtain ⟨hpos, hle⟩ := timaPeriod_bounds s.timer.tac
    exact ⟨htima ▸ (Nat.mod_lt _ hpos).trans_le hle, hdiv⟩
  · exact ⟨h, rfl⟩

/-- A step takes less cycles than a frame, so one completion brings the counter below two frames
(60_exceptions.md R506). -/
theorem frameStep_frameAcc {s : State} {n : Nat} (hn : n ≤ 24) (h : s.coord.frameAcc < 2 * 70224) :
    (frameStep n s).coord.frameAcc < 2 * 70224 := by
  have htarget : 70224 ≤ frameTarget s ∧ frameTarget s ≤ 2 * 70224 := by
    unfold frameTarget speed
    split <;> omega
  simp only [frameStep]
  split <;> simp only <;> omega

/-! ### The machine step -/

theorem Inv.timaStep {s : State} (n : Nat) (h : Inv s) : Inv (timaStep n s) := by
  obtain ⟨hcart, hmem, hppu, hperiod, hdiv, htima, hframe⟩ := h
  obtain ⟨htima', hdiv'⟩ := timaStep_accumulators n htima
  rw [timaStep_timerOnly n s]
  exact ⟨hcart, hmem, hppu, hperiod, hdiv'.trans_lt hdiv, htima', hframe⟩

theorem Inv.frameStep {s : State} {n : Nat} (hn : n ≤ 24) (h : Inv s) : Inv (frameStep n s) := by
  obtain ⟨hcart, hmem, hppu, hperiod, hdiv, htima, hframe⟩ := h
  have hframe' := frameStep_frameAcc hn hframe
  rw [frameStep_coordOnly n s]
  exact ⟨hcart, hmem, hppu, hperiod, hdiv, htima, hframe'⟩

/-- The devices' updates restore the invariant. -/
theorem Midway.advanceDevices {s : State} {n : Nat} (hn : n ≤ 24) (h : Midway s) :
    Inv (advanceDevices n s) := by
  obtain ⟨hppu, hdot⟩ := h.ppuStep n
  obtain ⟨hdiv, hacc⟩ := hppu.divStep n
  have hinv : Inv (Machine.divStep n (Machine.ppuStep n s)) := hdiv.inv hdot hacc
  exact (hinv.timaStep n).frameStep hn

/-- Every step keeps the invariant. -/
theorem Inv.step {s t : State} (h : Inv s) (hstep : step s = .next t) : Inv t := by
  obtain ⟨u, heff, hn, rfl⟩ := step_eq_next hstep
  exact (h.midway.beginStep.effect heff).advanceDevices hn

end Sys2Proof.Machine
end

section
/-! SUPPORT. Reset (10_state.md R78, 20_memory.md R152). -/

namespace Sys2Proof.Machine

/-- The cartridge controller right after load meets its part of the invariant where the header
counts two ROM banks or more. -/
theorem cartOk_afterLoad {cartType : Byte} {romBanks ramBanks : Nat} {ram2K : Bool}
    (hrom : 1 < romBanks) (h2K : ram2K = true → ramBanks = 1) :
    CartOk (Cart.afterLoad cartType romBanks ramBanks ram2K) :=
  ⟨Nat.zero_lt_of_lt hrom, hrom, fun _ => show 0 < max ramBanks 1 by omega, h2K⟩

/-- A machine right after reset meets the invariant, whatever its parameters, cartridge and image,
as long as these meet their own parts of it. -/
theorem inv_afterReset {p : Params} {cart : Cart} {rom : Memory} (hcart : CartOk cart)
    (hrom : Memory.romWf rom) (hperiod : 0 < p.divPeriodDs) :
    Inv (State.afterReset p cart rom) := by
  have hon : lcdOn (State.afterReset p cart rom) ≠ false :=
    show (0x91#8).getLsbD 7 ≠ false by decide
  have hcols : ∀ row ∈ List.replicate 144 (List.replicate 160 (0 : Shade)), row.length = 160 :=
    fun row h => by rw [List.eq_of_mem_replicate h, List.length_replicate]
  have hmem : MemoryOk (State.afterReset p cart rom) :=
    ⟨List.Pairwise.nil, hrom, fun _ h => absurd h List.not_mem_nil⟩
  have hppu : PpuOk (State.afterReset p cart rom) :=
    ⟨show 0 < 154 by decide, show PpuMode.oamScan = .vblank ↔ 144 ≤ 0 by decide,
      show 0 < 80 * 1 by decide, fun hoff => absurd hoff hon, List.length_replicate, hcols⟩
  have hcounters : CountersOk (State.afterReset p cart rom) :=
    ⟨hperiod, show 0 < 256 by decide, show 0 < 1024 by decide, show 0 < 2 * 70224 by decide⟩
  exact ⟨hcart, hmem, hppu, hcounters⟩

end Sys2Proof.Machine
end

section
/-! SUPPORT. The statements of the family 10_state.md settled. -/

namespace Sys2Proof.Proofs

open Sys2Proof.Machine

/-- Settles O59: the CPU step keeps all of the invariant but two bounds, and the devices' updates
restore those. -/
theorem invariantKeptByStep : Obligations.InvariantKeptByStep := fun _ _ h hstep => h.step hstep

/-- Settles O39: the clauses on stops by the definition of the step, the last by `step_fixed`. -/
theorem machineStep : Obligations.MachineStep := by
  intro s
  have running (hf : s.fault = none) (hr : s.refused = none) :
      step s = mapNext (fun t => advanceDevices t.out.cycles t) (cpuStep (beginStep s)) := by
    rw [step, stepOrStopped, hf, hr, Machine.machineStep]
  refine ⟨fun f hf => ?_, fun r hf hr => ?_, fun t hf hr hcpu => ?_, fun f hf hr hcpu => ?_,
    fun r hf hr hcpu => ?_, fun t hstep => ?_⟩
  · rw [step, stepOrStopped, hf]
  · rw [step, stepOrStopped, hf, hr]
  · rw [running hf hr, hcpu]; rfl
  · rw [running hf hr, hcpu]; rfl
  · rw [running hf hr, hcpu]; rfl
  · simpa only [State.fixed, Cart.header, Prod.mk.injEq] using step_fixed hstep

/-- Settles O57: each value by evaluation of the reset state, for both boot profiles. -/
theorem resetState : Obligations.ResetState := by
  intro p cartType romBanks ramBanks ram2K rom s
  have regs (b : BootProfile) (h : p.bootProfile = b) : s.regs = Regs.afterReset b :=
    congrArg Regs.afterReset h
  have p1 : memRead s 0xFF00 = 0xCF := show (3#2 ++ 0#2) ++ 0xF#4 = 0xCF#8 by decide
  have stat : memRead s 0xFF41 = 0x86 :=
    show (1#1 ++ 0#4) ++ (BitVec.ofBool true ++ PpuMode.oamScan.number) = 0x86#8 by decide
  have armed : s.key1.getLsbD 0 = false := show (0x00#8).getLsbD 0 = false by decide
  refine ⟨fun h => ?_, fun h => ?_, ?_⟩
  · rw [regs .dmg h]; exact ⟨rfl, rfl⟩
  · rw [regs .cgb h]; exact ⟨rfl, rfl⟩
  · exact ⟨rfl, rfl, rfl,
      p1, rfl, rfl,
      rfl, rfl, rfl,
      rfl, rfl, rfl,
      rfl, rfl,
      rfl, stat, rfl,
      rfl, rfl, rfl,
      rfl, rfl, rfl,
      rfl, rfl, rfl,
      armed, rfl, rfl, rfl,
      rfl, rfl,
      rfl,
      rfl, rfl, rfl, rfl,
      rfl, rfl, rfl, rfl,
      rfl, rfl,
      fun _ => rfl⟩

/-- Settles O58: the blank cartridge of `State.reset` meets what `inv_afterReset` asks. -/
theorem invariantAtReset : Obligations.InvariantAtReset :=
  inv_afterReset (cartOk_afterLoad (by decide) (by simp)) ⟨List.Pairwise.nil, by simp⟩ (by decide)

end Sys2Proof.Proofs
end

section
/-! SUPPORT. Where an access goes: the regions as ranges, the location of the memory arrays that an
address reaches, and reads after a write to one (20_memory.md R105 to R113, 10_state.md R76). -/

namespace Sys2Proof.Machine

/-! ### Regions as ranges -/

/-- A region's first address (20_memory.md R105). -/
def Region.first : Region → Nat
  | .rom => 0
  | .vram => 0x8000
  | .external => 0xA000
  | .wram => 0xC000
  | .echo => 0xE000
  | .oam => 0xFE00
  | .unusable => 0xFEA0
  | .io => 0xFF00
  | .hram => 0xFF80
  | .ie => 0xFFFF

/-- The address after a region's last (20_memory.md R105). -/
def Region.past : Region → Nat
  | .rom => 0x8000
  | .vram => 0xA000
  | .external => 0xC000
  | .wram => 0xE000
  | .echo => 0xFE00
  | .oam => 0xFEA0
  | .unusable => 0xFF00
  | .io => 0xFF80
  | .hram => 0xFFFF
  | .ie => 0x10000

/-- An address is in the range of its region. -/
theorem region_bounds {a : Word} {r : Region} (h : regionOf a.toNat = r) :
    r.first ≤ a.toNat ∧ a.toNat < r.past := by
  have ha := a.isLt
  subst h
  unfold regionOf
  split_ifs <;> simp only [Region.first, Region.past] <;> omega

/-- The address's region is the one whose range it is in. -/
theorem regionOf_of_bounds {a : Word} {r : Region} (hfirst : r.first ≤ a.toNat)
    (hpast : a.toNat < r.past) : regionOf a.toNat = r := by
  cases r <;> grind [regionOf, Region.first, Region.past]

/-! ### What a read depends on -/

/-- Outside the I/O region a read depends on the memory arrays, the ROM image, the cartridge, IE, the
parameters and the step number only. -/
theorem memRead_congr_of_not_io {s t : State} {a : Word} (h : regionOf a.toNat ≠ .io)
    (hmem : t.mem = s.mem) (hrom : t.rom = s.rom) (hcart : t.cart = s.cart)
    (hie : t.irq.ie = s.irq.ie) (hpar : t.params = s.params) (htick : t.tick = s.tick) :
    memRead t a = memRead s a := by
  cases hr : regionOf a.toNat
  case io => exact absurd hr h
  all_goals
    simp only [memRead, hr, readExt, State.ramByte, State.romByte, hmem, hrom, hcart, hie,
      hpar, htick]

/-- The cartridge controller decides reads of ROM and of the external region only. -/
theorem memRead_withCart {s : State} {a : Word} {c : Cart} (hext : regionOf a.toNat ≠ .external)
    (hrom : regionOf a.toNat = .rom → c.romOffset a.toNat = s.cart.romOffset a.toNat) :
    memRead { s with cart := c } a = memRead s a := by
  cases hr : regionOf a.toNat
  case external => exact absurd hr hext
  case rom => rw [memRead_rom _ hr, memRead_rom _ hr, hrom hr]; rfl
  all_goals simp only [memRead, hr] <;> rfl

/-! ### The locations of the memory arrays -/

/-- The location of the memory arrays that an access at an address reaches, if it reaches one. -/
def Cart.ramKey (c : Cart) (a : Nat) : Option Nat :=
  match regionOf a with
  | .vram | .wram | .oam | .hram => some a
  | .echo => some (0xC000 + a % 0x2000)
  | .external =>
    match c.extTarget a with
    | .ram offset => some (extKey offset)
    | _ => none
  | .io =>
    match ioRegOf (a % 0x100) with
    | .audio | .plain => some a
    | _ => none
  | .rom | .unusable | .ie => none

/-- An access reaches a location at its own address, a WRAM location through the echo range, or one
of external RAM. -/
theorem Cart.ramKey_eq_some {c : Cart} {a : Word} {k : Nat} (h : c.ramKey a.toNat = some k) :
    (regionOf a.toNat ∈ [.vram, .wram, .oam, .io, .hram] ∧ k = a.toNat)
      ∨ (regionOf a.toNat = .echo ∧ k = 0xC000 + a.toNat % 0x2000)
      ∨ (regionOf a.toNat = .external
        ∧ ∃ offset, c.extTarget a.toNat = .ram offset ∧ k = extKey offset) := by
  unfold Cart.ramKey at h
  cases hr : regionOf a.toNat <;> simp only [hr] at h
  case rom | unusable | ie => cases h
  case vram | wram | oam | hram => cases h; exact .inl ⟨by simp, rfl⟩
  case echo => cases h; exact .inr (.inl ⟨rfl, rfl⟩)
  case external =>
    split at h <;> cases h
    exact .inr (.inr ⟨rfl, _, ‹_›, rfl⟩)
  case io => split at h <;> cases h <;> exact .inl ⟨by simp, rfl⟩

/-- A read of an address that reaches a location gives the location's byte. -/
theorem memRead_of_ramKey {s : State} {a : Word} {k : Nat} (h : s.cart.ramKey a.toNat = some k) :
    memRead s a = s.ramByte k := by
  unfold Cart.ramKey at h
  cases hr : regionOf a.toNat <;> simp only [hr] at h
  case rom | unusable | ie => cases h
  case vram | wram | oam | hram | echo => cases h; simp only [memRead, hr]
  case external =>
    split at h <;> cases h
    simp only [memRead_external _ hr, readExt, *]
  case io => split at h <;> cases h <;> simp only [memRead_io _ hr, readIo, *]

/-- A read of an address that reaches no location does not depend on the memory arrays. -/
theorem memRead_withMem_of_ramKey {s : State} {a : Word} (m : Memory)
    (h : s.cart.ramKey a.toNat = none) : memRead { s with mem := m } a = memRead s a := by
  unfold Cart.ramKey at h
  cases hr : regionOf a.toNat <;> simp only [hr] at h
  case rom | unusable | ie => simp only [memRead, hr] <;> rfl
  case vram | wram | oam | hram | echo => cases h
  case external =>
    rw [memRead_external _ hr, memRead_external _ hr, readExt, readExt]
    cases ht : s.cart.extTarget a.toNat <;> simp only [ht] at h
    case ram => cases h
    all_goals rfl
  case io =>
    rw [memRead_io _ hr, memRead_io _ hr, readIo, readIo]
    cases ht : ioRegOf (a.toNat % 0x100) <;> simp only [ht] at h
    case audio | plain => cases h
    all_goals rfl

/-- A write to a location changes the reads of the addresses that reach it, and no others. -/
theorem memRead_setRam (s : State) (k : Nat) (v : Byte) (a : Word) :
    memRead (s.setRam k v) a = if s.cart.ramKey a.toNat = some k then v else memRead s a := by
  cases h : s.cart.ramKey a.toNat with
  | none => exact memRead_withMem_of_ramKey _ h
  | some j =>
    rw [memRead_of_ramKey (s := s.setRam k v) h, memRead_of_ramKey h]
    split
    case isTrue e => cases e; exact s.ramByte_setRam_same k v
    case isFalse e => exact s.ramByte_setRam_other k j v fun hjk => e (congrArg some hjk)

/-- A write to an address that reaches a location stores the byte there; only the writes handed to
the APU may change beside it. -/
theorem memWrite_of_ramKey {s : State} {a : Word} {k : Nat} (v : Byte)
    (h : s.cart.ramKey a.toNat = some k) :
    ∃ out, memWrite s a v = { s.setRam k v with out := out } := by
  unfold Cart.ramKey at h
  cases hr : regionOf a.toNat <;> simp only [hr] at h
  case rom | unusable | ie => cases h
  case vram | wram | oam | hram | echo => cases h; exact ⟨s.out, by simp only [memWrite, hr]; rfl⟩
  case external =>
    split at h <;> cases h
    exact ⟨s.out, by simp only [memWrite_external _ _ hr, writeExt, *]; rfl⟩
  case io =>
    rw [memWrite_io _ _ hr, writeIoAction, writeIo]
    split at h <;> cases h <;> simp only [*] <;> exact ⟨_, rfl⟩

/-- What every read gives after a write to an address that reaches a location. -/
theorem memRead_memWrite_of_ramKey {s : State} {a : Word} {k : Nat} (v : Byte) (b : Word)
    (h : s.cart.ramKey a.toNat = some k) :
    memRead (memWrite s a v) b = if s.cart.ramKey b.toNat = some k then v else memRead s b := by
  obtain ⟨out, e⟩ := memWrite_of_ramKey v h
  rw [e, ← memRead_setRam]
  rfl

end Sys2Proof.Machine
end

section
/-! SUPPORT. The I/O region: each named register has one address, and a write to one register leaves
what the others read (20_memory.md R136 to R138, 60_exceptions.md R469). -/

namespace Sys2Proof.Machine

/-! ### Named registers -/

/-- Whether a register is one that no memory array holds: every register but the audio registers and
the addresses no rule names. -/
def IoReg.named : IoReg → Bool
  | .audio | .plain => false
  | _ => true

/-- The offset in the I/O region of a named register (10_state.md R51 to R66). -/
def IoReg.offset : IoReg → Nat
  | .p1 => 0x00
  | .sb => 0x01
  | .sc => 0x02
  | .div => 0x04
  | .tima => 0x05
  | .tma => 0x06
  | .tac => 0x07
  | .ifr => 0x0F
  | .lcdc => 0x40
  | .stat => 0x41
  | .scy => 0x42
  | .scx => 0x43
  | .ly => 0x44
  | .lyc => 0x45
  | .dma => 0x46
  | .bgp => 0x47
  | .obp0 => 0x48
  | .obp1 => 0x49
  | .wy => 0x4A
  | .wx => 0x4B
  | .key1 => 0x4D
  | .audio | .plain => 0

theorem ioRegOf_named {n : Nat} (h : (ioRegOf n).named = true) : n = (ioRegOf n).offset := by
  unfold ioRegOf at h ⊢
  split at h <;> try rfl
  split at h <;> cases h

theorem ioRegOf_audio {n : Nat} (hlo : 0x10 ≤ n) (hhi : n ≤ 0x3F) : ioRegOf n = .audio := by
  unfold ioRegOf
  split
  case h_22 => exact if_pos ⟨hlo, hhi⟩
  all_goals omega

/-- A named register is at one address of the I/O region. -/
theorem ioAddress_of_named {a : Word} {r : IoReg} (hr : regionOf a.toNat = .io)
    (h : ioRegOf (a.toNat % 0x100) = r) (hnamed : r.named = true) : a.toNat = 0xFF00 + r.offset := by
  subst h
  obtain ⟨hlo, hhi⟩ := region_bounds hr
  have hn := ioRegOf_named hnamed
  simp only [Region.first, Region.past] at hlo hhi
  omega

/-- In the I/O region exactly the named registers are held outside the memory arrays. -/
theorem Cart.ramKey_io_eq_none_iff (c : Cart) {a : Nat} (hr : regionOf a = .io) :
    c.ramKey a = none ↔ (ioRegOf (a % 0x100)).named = true := by
  simp only [Cart.ramKey, hr]
  cases ioRegOf (a % 0x100) <;> simp [IoReg.named]

/-! ### Writes to named registers -/

theorem writeP1_eq (s : State) (v : Byte) : writeP1 s v = { s with pad := (writeP1 s v).pad } := by
  unfold writeP1
  dsimp only
  split <;> rfl

theorem writeLcdc_eq (s : State) (v : Byte) :
    writeLcdc s v = { s with lcd := { s.lcd with lcdc := v }, ppu := (writeLcdc s v).ppu } := by
  unfold writeLcdc
  split <;> rfl

theorem writeKey1_eq (s : State) (v : Byte) :
    writeKey1 s v = { s with key1 := (writeKey1 s v).key1 } := by
  unfold writeKey1
  split <;> rfl

/-- A write to a named register leaves the memory arrays, the cartridge and IE as they are. -/
theorem writeIo_named_keeps (s : State) {a : Nat} (v : Byte)
    (h : (ioRegOf (a % 0x100)).named = true) :
    (writeIo s a v).mem = s.mem ∧ (writeIo s a v).cart = s.cart
      ∧ (writeIo s a v).irq.ie = s.irq.ie := by
  unfold writeIo
  cases hr : ioRegOf (a % 0x100) <;> simp only [hr] at h ⊢
  case audio | plain => cases h
  case p1 => rw [writeP1_eq]; exact ⟨rfl, rfl, rfl⟩
  case lcdc => rw [writeLcdc_eq]; exact ⟨rfl, rfl, rfl⟩
  case key1 => rw [writeKey1_eq]; exact ⟨rfl, rfl, rfl⟩
  all_goals trivial

/-- A register that stores its whole byte reads back the byte written. -/
theorem readIo_writeIo_same (s : State) {a : Nat} (v : Byte)
    (h : ioRegOf (a % 0x100) ∉ [.p1, .div, .stat, .ly])
    (hkey : ioRegOf (a % 0x100) = .key1 → s.params.bootProfile = .dmg) :
    readIo (writeIo s a v) a = v := by
  cases hr : ioRegOf (a % 0x100) <;> simp only [hr, readIo, writeIo] at h hkey ⊢
  case p1 | div | stat | ly => simp at h
  case lcdc => rw [writeLcdc_eq]
  case key1 => simp only [key1Byte, writeKey1, hkey trivial]
  case audio => exact s.ramByte_setRam_same a v
  case plain => exact s.ramByte_setRam_same a v

/-- A write to a named register leaves what the others read, LCDC apart, whose write can change LY
and the mode. -/
theorem readIo_writeIo_other (s : State) {a b : Nat} (v : Byte)
    (h : (ioRegOf (a % 0x100)).named = true)
    (hne : ioRegOf (b % 0x100) ≠ ioRegOf (a % 0x100))
    (hlcdc : ioRegOf (a % 0x100) = .lcdc → ioRegOf (b % 0x100) ∉ [.stat, .ly]) :
    readIo (writeIo s a v) b = readIo s b := by
  unfold readIo writeIo
  rw [writeP1_eq, writeLcdc_eq, writeKey1_eq]
  generalize ioRegOf (a % 0x100) = r at *
  generalize ioRegOf (b % 0x100) = q at *
  cases r
  case audio | plain => cases h
  case ly => rfl
  case lcdc =>
    cases q <;> try rfl
    case lcdc => exact absurd rfl hne
    case stat | ly => simp at hlcdc
  all_goals
    cases q <;> try rfl
    exact absurd rfl hne

end Sys2Proof.Machine
end

section
/-! SUPPORT. OAM DMA, and reads after a write that reaches no location of the memory arrays
(20_memory.md R120 to R128, R136 to R139). -/

namespace Sys2Proof.Machine

/-! ### OAM DMA -/

/-- A location of OAM is reached at its own address only. -/
theorem Cart.ramKey_eq_oam_iff (c : Cart) (a : Word) {i : Nat} (hi : i < 160) :
    c.ramKey a.toNat = some (0xFE00 + i) ↔ a.toNat = 0xFE00 + i := by
  constructor
  · intro h
    obtain ⟨-, h⟩ | ⟨-, h⟩ | ⟨-, offset, -, h⟩ := Cart.ramKey_eq_some h
    · exact h.symm
    · omega
    · simp only [extKey] at h; omega
  · intro h
    have hr : regionOf a.toNat = .oam :=
      regionOf_of_bounds (show 0xFE00 ≤ _ by omega) (show _ < 0xFEA0 by omega)
    rw [← h]
    simp only [Cart.ramKey, hr]

/-- What every read gives after the first `n` bytes of an OAM DMA copy. A copy of OAM to itself, from
page 0xFE, reads each byte before it is written. -/
theorem memRead_oamDma_range (s : State) (v : Byte) {n : Nat} (hn : n ≤ 160) (b : Word) :
    memRead ((List.range n).foldl (oamDmaByte v) s) b =
      if 0xFE00 ≤ b.toNat ∧ b.toNat < 0xFE00 + n
      then memRead s (BitVec.ofNat 16 (v.toNat * 256 + (b.toNat - 0xFE00)))
      else memRead s b := by
  induction n generalizing b with
  | zero => rw [if_neg (by omega)]; rfl
  | succ n ih =>
    have hv := v.isLt
    rw [List.range_succ, List.foldl_append, List.foldl_cons, List.foldl_nil, oamDmaByte,
      memRead_setRam]
    by_cases hb : b.toNat = 0xFE00 + n
    · have hsrc : (BitVec.ofNat 16 (v.toNat * 256 + n)).toNat = v.toNat * 256 + n := by
        rw [BitVec.toNat_ofNat, Nat.mod_eq_of_lt (by omega)]
      rw [if_pos ((Cart.ramKey_eq_oam_iff _ b (by omega)).mpr hb), if_pos (by omega), ih (by omega),
        hsrc, if_neg (by omega), hb, Nat.add_sub_cancel_left]
    · rw [if_neg fun h => hb ((Cart.ramKey_eq_oam_iff _ b (by omega)).mp h), ih (by omega)]
      exact if_congr (by omega) rfl rfl

/-- What every read gives after an OAM DMA: the byte copied in OAM, and what it gave before
elsewhere (20_memory.md R139). -/
theorem memRead_oamDma (s : State) (v : Byte) (b : Word) :
    memRead (oamDma s v) b =
      if 0xFE00 ≤ b.toNat ∧ b.toNat < 0xFEA0
      then memRead s (BitVec.ofNat 16 (v.toNat * 256 + (b.toNat - 0xFE00)))
      else memRead s b :=
  memRead_oamDma_range s v (Nat.le_refl 160) b

theorem memRead_oamDma_of_not_oam (s : State) (v : Byte) {b : Word} (h : regionOf b.toNat ≠ .oam) :
    memRead (oamDma s v) b = memRead s b := by
  rw [memRead_oamDma, if_neg fun hb => h (regionOf_of_bounds (r := .oam) hb.1 hb.2)]

/-! ### Writes to a named register -/

/-- A read outside OAM does not see the copy that a write to DMA starts. -/
theorem memRead_memWrite_io (s : State) {a b : Word} (v : Byte) (ha : regionOf a.toNat = .io)
    (hb : ioRegOf (a.toNat % 0x100) = .dma → regionOf b.toNat ≠ .oam) :
    memRead (memWrite s a v) b = memRead (writeIo s a.toNat v) b := by
  rw [memWrite_io _ _ ha, writeIoAction]
  split
  case isTrue h => exact memRead_oamDma_of_not_oam _ v (hb h)
  case isFalse => rfl

/-- Outside the I/O region a read does not see a write to a named register. -/
theorem memRead_writeIo_of_not_io (s : State) {a : Nat} {b : Word} (v : Byte)
    (ha : (ioRegOf (a % 0x100)).named = true) (hb : regionOf b.toNat ≠ .io) :
    memRead (writeIo s a v) b = memRead s b := by
  obtain ⟨hmem, hcart, hie⟩ := writeIo_named_keeps s v ha
  have e := writeIo_writesOnly s a v
  rw [WritesOnly] at e
  exact memRead_congr_of_not_io hb hmem ((congrArg State.rom e).trans rfl) hcart hie
    ((congrArg State.params e).trans rfl) ((congrArg State.tick e).trans rfl)

/-! ### Writes to a clock register -/

@[simp] theorem Rtc.get_put_same (r : Rtc) (i : Nat) (v : Byte) : (r.put i v).get i = v := by
  match i with
  | 0 | 1 | 2 | 3 | _ + 4 => rfl

/-- Where mapper 3 selects a clock register, every address of the external region reaches it. -/
theorem Cart.extTarget_clock {c : Cart} {a i : Nat} (h : c.extTarget a = .clock i) (b : Nat) :
    c.extTarget b = .clock i := by
  cases hm : c.mapper <;> simp only [Cart.extTarget, hm] at h ⊢
  case mapper3 =>
    split_ifs at h ⊢
    exact h
  all_goals split at h <;> cases h

/-- The clock registers show in reads of the external region only. -/
theorem memRead_withRtc {s : State} {b : Word} (r : Rtc) (h : regionOf b.toNat ≠ .external) :
    memRead { s with cart := { s.cart with rtc := r } } b = memRead s b :=
  memRead_withCart h fun _ => rfl

/-! ### Reads after a write, in general -/

/-- A write to an address that reaches a location may change what it reads. -/
theorem writeReaches_self {c : Cart} {a : Nat} {k : Nat} (h : c.ramKey a = some k) :
    writeReaches c a a = true := by
  unfold Cart.ramKey at h
  unfold writeReaches
  cases hr : regionOf a <;> simp only [hr] at h ⊢
  case rom | unusable | ie => cases h
  case external => split at h <;> simp_all
  case io => split at h <;> simp_all
  all_goals simp

/-- Two addresses that reach one location reach each other. -/
theorem writeReaches_of_ramKey {c : Cart} {a b : Word} {k : Nat} (ha : c.ramKey a.toNat = some k)
    (hb : c.ramKey b.toNat = some k) : writeReaches c a.toNat b.toNat = true := by
  have hlta := a.isLt
  have hltb := b.isLt
  have self (e : b.toNat = a.toNat) : writeReaches c a.toNat b.toNat = true :=
    e.symm ▸ writeReaches_self ha
  obtain ⟨-, hka⟩ | ⟨hra, hka⟩ | ⟨hra, offset, hta, hka⟩ := Cart.ramKey_eq_some ha <;>
  obtain ⟨-, hkb⟩ | ⟨hrb, hkb⟩ | ⟨hrb, offset', htb, hkb⟩ := Cart.ramKey_eq_some hb
  case inr.inr.inr.inr =>
    simp only [extKey] at hka hkb
    have e : offset' = offset := by omega
    simp [writeReaches, hra, hrb, hta, htb, e]
  case inl.inr.inl =>
    have hr : regionOf a.toNat = .wram :=
      regionOf_of_bounds (show 0xC000 ≤ _ by omega) (show _ < 0xE000 by omega)
    obtain ⟨hlo, hhi⟩ := region_bounds hrb
    simp only [Region.first, Region.past] at hlo hhi
    have e : b.toNat = a.toNat + 0x2000 := by omega
    simp [writeReaches, hr, e, e ▸ hrb]
  case inr.inl.inl => simp [writeReaches, hra, ← hka, ← hkb]
  case inl.inl => exact self (by omega)
  case inr.inl.inr.inl =>
    have hba := region_bounds hra
    have hbb := region_bounds hrb
    simp only [Region.first, Region.past] at hba hbb
    exact self (by omega)
  -- No CPU address is a location of external RAM.
  all_goals
    simp only [extKey] at hka hkb
    omega

/-- A write to a controller's register leaves the reads it does not reach: the first ROM bank, and
everything outside ROM and the external region. -/
theorem memRead_memWrite_rom_of_not_reached {s : State} {a b : Word} (v : Byte)
    (hr : regionOf a.toNat = .rom) (h : writeReaches s.cart a.toNat b.toNat = false) :
    memRead (memWrite s a v) b = memRead s b := by
  simp only [writeReaches, hr, Bool.or_eq_false_iff, decide_eq_false_iff_not, not_and, not_le] at h
  obtain ⟨hfirst, hext⟩ := h
  rw [memWrite_rom _ _ hr]
  exact memRead_withCart hext fun hb => by
    rw [Cart.romOffset, Cart.romOffset, if_pos (hfirst hb), if_pos (hfirst hb)]

/-- A clock register reads back as a shadow. -/
theorem memRead_memWrite_clock_same {s : State} {a : Word} {i : Nat} (v : Byte)
    (hr : regionOf a.toNat = .external) (ht : s.cart.extTarget a.toNat = .clock i)
    (hp : s.params.rtcModel = .shadow) : memRead (memWrite s a v) a = v := by
  have ht' (r : Rtc) : ({ s.cart with rtc := r } : Cart).extTarget a.toNat = .clock i := ht
  rw [memWrite_external _ _ hr, memRead_external _ hr]
  simp only [writeExt, ht, readExt, ht', hp, Rtc.get_put_same]

/-- A write to a clock register leaves the reads outside the external region. -/
theorem memRead_memWrite_clock_of_not_external {s : State} {a b : Word} {i : Nat} (v : Byte)
    (hr : regionOf a.toNat = .external) (ht : s.cart.extTarget a.toNat = .clock i)
    (hb : regionOf b.toNat ≠ .external) : memRead (memWrite s a v) b = memRead s b := by
  rw [memWrite_external _ _ hr]
  simp only [writeExt, ht]
  exact memRead_withRtc _ hb

/-- What a write to the I/O region does not reach, register by register. -/
theorem not_writeReaches_io {c : Cart} {a b : Word} (hr : regionOf a.toNat = .io)
    (h : writeReaches c a.toNat b.toNat = false) :
    (ioRegOf (a.toNat % 0x100) = .dma → regionOf b.toNat ≠ .oam)
      ∧ (ioRegOf (a.toNat % 0x100) = .lcdc →
        b.toNat ≠ 0xFF40 ∧ b.toNat ≠ 0xFF41 ∧ b.toNat ≠ 0xFF44)
      ∧ (ioRegOf (a.toNat % 0x100) ∉ [.lcdc, .ly] → b.toNat ≠ a.toNat) := by
  simp only [writeReaches, hr] at h
  cases hreg : ioRegOf (a.toNat % 0x100) <;> simp only [hreg] at h <;> simp_all

/-- A write to a named register leaves the reads it does not reach. -/
theorem memRead_memWrite_named_of_not_reached {s : State} {a b : Word} (v : Byte)
    (hr : regionOf a.toNat = .io) (hnamed : (ioRegOf (a.toNat % 0x100)).named = true)
    (h : writeReaches s.cart a.toNat b.toNat = false) :
    memRead (memWrite s a v) b = memRead s b := by
  obtain ⟨hdma, hlcdc, hne⟩ := not_writeReaches_io hr h
  have haddr := ioAddress_of_named hr rfl hnamed
  rw [memRead_memWrite_io s v hr hdma]
  by_cases hb : regionOf b.toNat = .io
  case neg => exact memRead_writeIo_of_not_io s v hnamed hb
  rw [memRead_io _ hb, memRead_io _ hb]
  by_cases hly : ioRegOf (a.toNat % 0x100) = .ly
  · rw [writeIo, hly]
  refine readIo_writeIo_other s v hnamed (fun e => ?_) (fun hl hmem => ?_)
  · have eab : b.toNat = a.toNat := (ioAddress_of_named hb e hnamed).trans haddr.symm
    by_cases hl : ioRegOf (a.toNat % 0x100) = .lcdc
    · exact (hlcdc hl).1 (ioAddress_of_named hb (e.trans hl) rfl)
    · exact hne (by simp [hl, hly]) eab
  · obtain ⟨-, hstat, hly⟩ := hlcdc hl
    rcases List.mem_pair.mp hmem with e | e
    · exact hstat (ioAddress_of_named hb e rfl)
    · exact hly (ioAddress_of_named hb e rfl)

/-- A write to IE leaves every other read. -/
theorem memRead_memWrite_ie {s : State} {a b : Word} (v : Byte) (hr : regionOf a.toNat = .ie)
    (hb : regionOf b.toNat ≠ .ie) : memRead (memWrite s a v) b = memRead s b := by
  rw [memWrite_ie _ _ hr]
  cases hrb : regionOf b.toNat
  case ie => exact absurd hrb hb
  all_goals simp only [memRead, hrb] <;> rfl

end Sys2Proof.Machine
end

section
/-! SUPPORT. The joypad's lines and presses, and what P1, STAT and KEY1 read, bit by bit
(20_memory.md R138, R143, R144, 10_state.md R52). -/

namespace Sys2Proof.Machine

/-! ### The joypad -/

/-- Four lines as a nibble, the last one lowest. -/
theorem getLsbD_lines (x3 x2 x1 x0 : Bool) :
    let low := (BitVec.ofBool x3 ++ BitVec.ofBool x2) ++ (BitVec.ofBool x1 ++ BitVec.ofBool x0)
    low.getLsbD 0 = x0 ∧ low.getLsbD 1 = x1 ∧ low.getLsbD 2 = x2 ∧ low.getLsbD 3 = x3 := by
  revert x3 x2 x1 x0
  decide

/-- A line reads 0 exactly where a selected button is pressed (20_memory.md R143). -/
theorem joypadNibble_getLsbD (sel : BitVec 2) (b : Buttons) {i : Nat} (hi : i < 4) :
    (joypadNibble sel b).getLsbD i =
      !((!sel.getLsbD 0 && b.dpad.getLsbD i) || (!sel.getLsbD 1 && b.keys.getLsbD i)) := by
  have ones : ∀ (j : Nat) (_ : j < 4), (0xF#4)[j] = true := by decide
  unfold joypadNibble
  cases sel.getLsbD 0 <;> cases sel.getLsbD 1 <;> simp [hi, ones]

/-- Bits added to an appended value are bits added to one of its parts. -/
theorem or_append_bne {m n : Nat} (x x' : BitVec m) (y y' : BitVec n) :
    ((x ++ y ||| x' ++ y') != x ++ y) = ((x ||| x') != x || (y ||| y') != y) := by
  have parts (p : BitVec m) (q : BitVec n) : p ++ q = x ++ y ↔ p = x ∧ q = y := by
    constructor
    · intro h
      have hq : q = y := by
        simpa only [BitVec.extractLsb'_append_eq_right] using congrArg (BitVec.extractLsb' 0 n) h
      exact ⟨(BitVec.append_left_inj q).mp (hq ▸ h), hq⟩
    · rintro ⟨rfl, rfl⟩; rfl
  rw [BitVec.or_append, Bool.eq_iff_iff]
  simp only [bne_iff_ne, Bool.or_eq_true, ne_eq, parts]
  tauto

theorem or_ofBool_bne (b c : Bool) :
    ((BitVec.ofBool b ||| BitVec.ofBool c) != BitVec.ofBool b) = (!b && c) := by
  cases b <;> cases c <;> rfl

/-- There is a new press exactly where some button goes from released to pressed. -/
theorem Buttons.newPress_eq (b c : Buttons) :
    b.newPress c = ((!b.right && c.right) || (!b.left && c.left) || (!b.up && c.up)
      || (!b.down && c.down) || (!b.btnA && c.btnA) || (!b.btnB && c.btnB)
      || (!b.select && c.select) || (!b.start && c.start)) := by
  simp only [Buttons.newPress, Buttons.dpad, Buttons.keys, or_append_bne, or_ofBool_bne]
  ac_rfl

/-! ### What P1, STAT and KEY1 read -/

theorem p1Byte_eq (s : State) :
    p1Byte s = 0xC0 ||| (s.pad.sel.setWidth 8 <<< 4) ||| s.pad.low.setWidth 8 := by
  rw [p1Byte]
  generalize s.pad.sel = sel
  generalize s.pad.low = low
  revert sel low
  decide

theorem statByte_eq (s : State) :
    statByte s =
      0x80 ||| (s.lcd.statEn.setWidth 8 <<< 3) ||| (if s.ppu.coinc then 0x04 else 0x00)
        ||| s.ppu.mode.number.setWidth 8 := by
  rw [statByte]
  generalize s.lcd.statEn = en
  cases s.ppu.coinc <;> cases s.ppu.mode <;> revert en <;> decide

/-- The low bit of a byte, as a byte. -/
theorem and_one_eq (v : Byte) : v &&& 1 = (v.extractLsb' 0 1).setWidth 8 := by
  revert v
  decide

theorem key1Byte_cgb {s : State} (h : s.params.bootProfile = .cgb) :
    key1Byte s = (if s.latch.ds then 0x80 else 0x00) ||| 0x7E ||| (s.key1 &&& 1) := by
  simp only [key1Byte, h]
  rw [and_one_eq]
  generalize s.key1.extractLsb' 0 1 = bit
  cases s.latch.ds <;> revert bit <;> decide

theorem key1Byte_dmg {s : State} (h : s.params.bootProfile = .dmg) : key1Byte s = s.key1 := by
  simp only [key1Byte, h]

end Sys2Proof.Machine
end

section
/-! SUPPORT. The mappers' registers, one rule per register and mapper, and what an access to the
external region reaches (20_memory.md R120 to R131). -/

namespace Sys2Proof.Machine

theorem toNat_extractLow (v : Byte) (n : Nat) : (v.extractLsb' 0 n).toNat = v.toNat % 2 ^ n := by
  rw [BitVec.extractLsb'_toNat, Nat.shiftRight_zero]

/-- The RAM-enable pattern, as a number (20_memory.md R121, R128). -/
theorem ramEnablePattern_eq (v : Byte) : ramEnablePattern v = decide (v.toNat % 16 = 0xA) := by
  rw [ramEnablePattern, Bool.eq_iff_iff, beq_iff_eq, decide_eq_true_iff, ← BitVec.toNat_inj,
    toNat_extractLow]
  rfl

/-! ### Mapper 1 -/

section
variable (c : Cart) (a : Nat) (v : Byte)

/-- Mapper 1's effective banks from its registers, and nothing else (20_memory.md R122). -/
theorem Cart.recompute1_eq :
    c.recompute1 =
      { c with
        romBank :=
          (if c.bankMode then c.bankLo.toNat else c.bankHi.toNat * 32 + c.bankLo.toNat) % c.romBanks
        ramBank := if c.bankMode then c.bankHi.toNat % max c.ramBanks 1 else 0 } := by
  unfold Cart.recompute1
  split <;> simp_all

theorem Cart.write1_ramEn :
    (c.write1 a v).ramEn = if a < 0x2000 then decide (v.toNat % 16 = 0xA) else c.ramEn := by
  rw [Cart.write1, Cart.recompute1_eq, ← ramEnablePattern_eq]
  grind

/-- Bank register 0 selects bank 1 (20_memory.md R122). -/
theorem Cart.write1_bankLo :
    (c.write1 a v).bankLo.toNat =
      if 0x2000 ≤ a ∧ a < 0x4000 then max 1 (v.toNat % 32) else c.bankLo.toNat := by
  have nonzero : (if v.extractLsb' 0 5 = 0 then 1 else v.extractLsb' 0 5).toNat
      = max 1 (v.toNat % 32) := by
    rw [← show _ = v.toNat % 32 from toNat_extractLow v 5]
    generalize v.extractLsb' 0 5 = lo
    revert lo
    decide
  rw [Cart.write1, Cart.recompute1_eq]
  grind

theorem Cart.write1_bankHi :
    (c.write1 a v).bankHi.toNat =
      if 0x4000 ≤ a ∧ a < 0x6000 then v.toNat % 4 else c.bankHi.toNat := by
  rw [Cart.write1, Cart.recompute1_eq, ← show _ = v.toNat % 4 from toNat_extractLow v 2]
  grind

theorem Cart.write1_bankMode :
    (c.write1 a v).bankMode = if 0x6000 ≤ a then v.getLsbD 0 else c.bankMode := by
  rw [Cart.write1, Cart.recompute1_eq]
  grind

/-- The effective banks follow the registers (20_memory.md R122, R129), and a write changes nothing
but registers and banks. -/
theorem Cart.write1_eq :
    let d := c.write1 a v
    d =
      { c with
        ramEn := d.ramEn, bankLo := d.bankLo, bankHi := d.bankHi, bankMode := d.bankMode
        romBank :=
          (if d.bankMode then d.bankLo.toNat else d.bankHi.toNat * 32 + d.bankLo.toNat) % c.romBanks
        ramBank := if d.bankMode then d.bankHi.toNat % max c.ramBanks 1 else 0 } := by
  rw [Cart.write1, Cart.recompute1_eq]
  dsimp only
  split_ifs <;> rfl

end

/-! ### Mapper 3 -/

section
variable (c : Cart) (a : Nat) (v : Byte)

theorem Cart.write3_ramEn :
    (c.write3 a v).ramEn = if a < 0x2000 then decide (v.toNat % 16 = 0xA) else c.ramEn := by
  rw [Cart.write3, ← ramEnablePattern_eq]
  grind

/-- Bank 0 selects bank 1 (20_memory.md R124). -/
theorem Cart.write3_romBank :
    (c.write3 a v).romBank =
      if 0x2000 ≤ a ∧ a < 0x4000 then max 1 (v.toNat % 128) % c.romBanks else c.romBank := by
  have nonzero : (if (v.extractLsb' 0 7).toNat = 0 then 1 else (v.extractLsb' 0 7).toNat)
      = max 1 (v.toNat % 128) := by
    rw [toNat_extractLow]
    split <;> omega
  rw [Cart.write3]
  grind

theorem Cart.write3_ramBank :
    (c.write3 a v).ramBank = if 0x4000 ≤ a ∧ a < 0x6000 then v.toNat else c.ramBank := by
  rw [Cart.write3]
  grind

/-- A write changes nothing but the enable flag and the two banks (20_memory.md R124). -/
theorem Cart.write3_eq :
    let d := c.write3 a v
    d = { c with ramEn := d.ramEn, romBank := d.romBank, ramBank := d.ramBank } := by
  rw [Cart.write3]
  dsimp only
  split_ifs <;> rfl

end

/-! ### Mapper 5 -/

section
variable (c : Cart) (a : Nat) (v : Byte)

theorem Cart.write5_ramEn :
    (c.write5 a v).ramEn = if a < 0x2000 then decide (v.toNat % 16 = 0xA) else c.ramEn := by
  rw [Cart.write5, ← ramEnablePattern_eq]
  grind [Cart.recompute5]

theorem Cart.write5_romLo :
    (c.write5 a v).romLo = if 0x2000 ≤ a ∧ a < 0x3000 then v else c.romLo := by
  rw [Cart.write5]
  grind [Cart.recompute5]

theorem Cart.write5_romHi :
    (c.write5 a v).romHi.toNat =
      if 0x3000 ≤ a ∧ a < 0x4000 then v.toNat % 2 else c.romHi.toNat := by
  rw [Cart.write5, ← show _ = v.toNat % 2 from toNat_extractLow v 1]
  grind [Cart.recompute5]

theorem Cart.write5_romBank :
    let d := c.write5 a v
    d.romBank =
      if 0x2000 ≤ a ∧ a < 0x4000 then (d.romHi.toNat * 256 + d.romLo.toNat) % c.romBanks
      else c.romBank := by
  dsimp only
  rw [Cart.write5]
  grind [Cart.recompute5]

/-- A rumble cartridge's RAM bank has three bits, another's four (20_memory.md R126). -/
theorem Cart.write5_ramBank :
    (c.write5 a v).ramBank =
      if 0x4000 ≤ a ∧ a < 0x6000 then v.toNat % (if c.isRumble then 8 else 16) % max c.ramBanks 1
      else c.ramBank := by
  have three : (v.extractLsb' 0 3).toNat = v.toNat % 8 := toNat_extractLow v 3
  have four : (v.extractLsb' 0 4).toNat = v.toNat % 16 := toNat_extractLow v 4
  rw [Cart.write5]
  grind [Cart.recompute5]

theorem Cart.write5_rumble :
    (c.write5 a v).rumble =
      if (0x4000 ≤ a ∧ a < 0x6000) ∧ c.isRumble then v.getLsbD 3 else c.rumble := by
  rw [Cart.write5]
  grind [Cart.recompute5]

/-- A write changes nothing but the registers and the banks (20_memory.md R126). -/
theorem Cart.write5_eq :
    let d := c.write5 a v
    d =
      { c with
        ramEn := d.ramEn, romLo := d.romLo, romHi := d.romHi, romBank := d.romBank
        ramBank := d.ramBank, rumble := d.rumble } := by
  rw [Cart.write5]
  dsimp only
  split_ifs <;> rfl

end

/-! ### What a read of ROM gives -/

/-- The first bank is the image's own; above it mapper 0 reads on, and the others read the bank
selected (20_memory.md R120, R131). -/
theorem Cart.romOffset_eq (c : Cart) {a : Nat} (ha : a < 0x8000) :
    c.romOffset a =
      if c.mapper = .mapper0 ∨ a < 0x4000 then a else c.romBank * 0x4000 + (a - 0x4000) := by
  have hmod (h : ¬a < 0x4000) : a % 0x4000 = a - 0x4000 := by omega
  unfold Cart.romOffset
  by_cases h : a < 0x4000
  · simp only [h, if_true, or_true]
  · simp only [h, if_false, or_false, hmod h]
    cases c.mapper <;> rfl

/-! ### The external region -/

section
variable {s : State} {a : Word} (v : Byte)

/-- Nothing is reached: 0xFF is read, and a write is discarded (20_memory.md R120, R123, R128). -/
theorem access_nothing (hr : regionOf a.toNat = .external)
    (ht : s.cart.extTarget a.toNat = .nothing) : memRead s a = 0xFF ∧ memWrite s a v = s := by
  rw [memRead_external _ hr, memWrite_external _ _ hr, readExt, writeExt, ht]
  exact ⟨rfl, rfl⟩

/-- External RAM is reached (20_memory.md R123, R127, R128). -/
theorem access_ram {offset : Nat} (hr : regionOf a.toNat = .external)
    (ht : s.cart.extTarget a.toNat = .ram offset) :
    memRead s a = s.ramByte (extKey offset) ∧ memWrite s a v = s.setRam (extKey offset) v := by
  rw [memRead_external _ hr, memWrite_external _ _ hr, readExt, writeExt, ht]
  exact ⟨rfl, rfl⟩

/-- A clock register is reached (20_memory.md R125). -/
theorem access_clock {i : Nat} (hr : regionOf a.toNat = .external)
    (ht : s.cart.extTarget a.toNat = .clock i) :
    (s.params.rtcModel = .shadow → memRead s a = s.cart.rtc.get i)
      ∧ (s.params.rtcModel = .draw → memRead s a = Config.rtcRead s.tick i)
      ∧ memWrite s a v = { s with cart := { s.cart with rtc := s.cart.rtc.put i v } } := by
  rw [memRead_external _ hr, memWrite_external _ _ hr, readExt, writeExt, ht]
  exact ⟨fun h => by simp only [h], fun h => by simp only [h], rfl⟩

end

/-- In the external region an offset counts from 0xA000 (20_memory.md R123). -/
theorem Cart.ramOffset_eq (c : Cart) (bank : Nat) {a : Nat} (hlo : 0xA000 ≤ a) (hhi : a < 0xC000) :
    c.ramOffset bank a =
      if c.ram2K then (bank * 0x2000 + (a - 0xA000)) % 0x800 else bank * 0x2000 + (a - 0xA000) := by
  have hmod : a % 0x2000 = a - 0xA000 := by omega
  rw [Cart.ramOffset, hmod]

end Sys2Proof.Machine
end

section
/-! SUPPORT. The statements of the family 20_memory.md settled. -/

namespace Sys2Proof.Proofs

open Sys2Proof.Machine

/-- Settles O43: a location of the memory arrays reads back the byte stored in it; the addresses that
reach none are a clock register, a named register of the I/O region, and IE. -/
theorem writeThenRead : Obligations.WriteThenRead := by
  intro s a v h
  cases hk : s.cart.ramKey a.toNat with
  | some k => rw [memRead_memWrite_of_ramKey v a hk, if_pos hk]
  | none =>
    cases hr : regionOf a.toNat <;> simp only [readsBack, hr] at h
    case vram | wram | echo | oam | hram => simp [Cart.ramKey, hr] at hk
    case rom | unusable => cases h
    case ie => rw [memWrite_ie _ _ hr, memRead_ie _ hr]
    case external =>
      cases ht : s.cart.extTarget a.toNat <;> simp only [ht] at h
      case nothing => cases h
      case ram => simp [Cart.ramKey, hr, ht] at hk
      case clock i => exact memRead_memWrite_clock_same v hr ht (of_decide_eq_true h)
    case io =>
      rw [memRead_memWrite_io s v hr fun _ => by simp [hr], memRead_io _ hr]
      refine readIo_writeIo_same s v (fun hmem => ?_) (fun hkey => ?_)
      · simp only [List.mem_cons, List.not_mem_nil, or_false] at hmem
        rcases hmem with e | e | e | e <;> simp only [e, Bool.false_eq_true] at h
      · simpa only [hkey, decide_eq_true_eq] using h

/-- Settles O44: where the write stores in a location, the write reaches every address that reads it;
the other writes are to a controller's register, a clock register, a named register of the I/O region,
and IE. -/
theorem writeLeavesOthers : Obligations.WriteLeavesOthers := by
  intro s a b v h
  cases hk : s.cart.ramKey a.toNat with
  | some k =>
    rw [memRead_memWrite_of_ramKey v b hk, if_neg fun hb => ?_]
    rw [writeReaches_of_ramKey hk hb] at h
    cases h
  | none =>
    cases hr : regionOf a.toNat
    case vram | wram | echo | oam | hram => simp [Cart.ramKey, hr] at hk
    case rom => exact memRead_memWrite_rom_of_not_reached v hr h
    case unusable => rw [memWrite_unusable _ _ hr]
    case io =>
      exact memRead_memWrite_named_of_not_reached v hr ((s.cart.ramKey_io_eq_none_iff hr).mp hk) h
    case ie =>
      simp only [writeReaches, hr, beq_eq_false_iff_ne] at h
      refine memRead_memWrite_ie v hr fun hb => h ?_
      have hba := region_bounds hr
      have hbb := region_bounds hb
      simp only [Region.first, Region.past] at hba hbb
      omega
    case external =>
      cases ht : s.cart.extTarget a.toNat
      case nothing => rw [memWrite_external _ _ hr, writeExt, ht]
      case ram => simp [Cart.ramKey, hr, ht] at hk
      case clock i =>
        refine memRead_memWrite_clock_of_not_external v hr ht fun hb => ?_
        simp [writeReaches, hr, hb, ht, Cart.extTarget_clock ht] at h

/-- Settles O45: by the region of each address. An echo address and the one 0x2000 lower have one
location, and no access to a location looks at the PPU. -/
theorem echoUnusableAndVideoMemory : Obligations.EchoUnusableAndVideoMemory := by
  intro s a v p
  refine ⟨fun hlo hhi => ?_, fun hlo hhi => ?_, fun h => ?_⟩
  · have hr : regionOf a.toNat = .echo := regionOf_of_bounds hlo hhi
    have hsub : (a - 0x2000).toNat = 0xC000 + a.toNat % 0x2000 := by
      rw [BitVec.toNat_sub_of_le (show 0x2000 ≤ a.toNat by omega)]
      change a.toNat - 0x2000 = _
      omega
    have hr' : regionOf (a - 0x2000).toNat = .wram :=
      regionOf_of_bounds (show 0xC000 ≤ _ by omega) (show _ < 0xE000 by omega)
    rw [memRead_echo _ hr, memRead_wram _ hr', memWrite_echo _ _ hr, memWrite_wram _ _ hr', hsub]
    exact ⟨rfl, rfl⟩
  · have hr : regionOf a.toNat = .unusable := regionOf_of_bounds hlo hhi
    exact ⟨memRead_unusable s hr, memWrite_unusable s v hr⟩
  · rcases h with ⟨hlo, hhi⟩ | ⟨hlo, hhi⟩
    · have hr : regionOf a.toNat = .vram := regionOf_of_bounds hlo hhi
      simp only [memRead_vram _ hr, memWrite_vram _ _ hr]
      exact ⟨rfl, rfl⟩
    · have hr : regionOf a.toNat = .oam := regionOf_of_bounds hlo hhi
      simp only [memRead_oam _ hr, memWrite_oam _ _ hr]
      exact ⟨rfl, rfl⟩

/-- Settles O46: most registers by evaluation of the access at their address; the audio registers and
the plain addresses by their range, and the bytes made of several fields bit by bit. -/
theorem ioRegisters : Obligations.IoRegisters := by
  intro s v
  refine ⟨rfl, rfl, rfl, rfl, rfl, rfl, fun a hlo hhi => ?_,
    rfl, rfl, rfl, rfl, fun h => ?_, fun h => ?_,
    p1Byte_eq s, rfl, ?_, rfl, fun h => key1Byte_cgb h, fun h => key1Byte_dmg h,
    rfl, fun a hlo hhi h => ?_⟩
  · have hr : regionOf a.toNat = .io :=
      regionOf_of_bounds (show 0xFF00 ≤ _ by omega) (show _ < 0xFF80 by omega)
    have hreg : ioRegOf (a.toNat % 0x100) = .audio := ioRegOf_audio (by omega) (by omega)
    rw [memWrite_io _ _ hr, writeIoAction, writeIo, hreg]
    simp [writeAudio]
  · change writeKey1 s v = _
    simp only [writeKey1, h, and_one_eq]
  · change writeKey1 s v = _
    simp only [writeKey1, h]
  · refine (statByte_eq s).trans ?_
    cases s.ppu.mode <;> rfl
  · have hr : regionOf a.toNat = .io := regionOf_of_bounds hlo hhi
    rw [memRead_io _ hr, readIo]
    rcases h with h | h <;> rw [h]

/-- Settles O47: the lines by `joypadNibble_getLsbD`, the request by `Buttons.newPress_eq`. -/
theorem joypadRegister : Obligations.JoypadRegister := by
  intro s v after sel b dpad keys
  have hw : memWrite s 0xFF00 v = writeP1 s v := rfl
  refine ⟨fun h => ?_, fun h => ?_, ?_⟩
  · rw [hw, writeP1, if_pos h]
  · obtain ⟨d0, d1, d2, d3⟩ := getLsbD_lines b.down b.up b.left b.right
    obtain ⟨k0, k1, k2, k3⟩ := getLsbD_lines b.start b.select b.btnB b.btnA
    refine ⟨joypadNibble sel b, by rw [hw, writeP1, if_neg h], ?_⟩
    have line {i : Nat} (hi : i < 4) := joypadNibble_getLsbD sel b hi
    rw [line (by decide : 0 < 4), line (by decide : 1 < 4), line (by decide : 2 < 4),
      line (by decide : 3 < 4), Buttons.dpad, Buttons.keys, d0, d1, d2, d3, k0, k1, k2, k3]
    exact ⟨rfl, rfl, rfl, rfl⟩
  · rw [setButtons, Buttons.newPress_eq]
    split <;> rfl

/-- Settles O49: every read after the copy is given by `memRead_oamDma`. -/
theorem oamDma : Obligations.OamDma := by
  intro s v u t
  have ht : t = Machine.oamDma u v := rfl
  refine ⟨fun i hi => ?_, fun b hb => ?_, ?_⟩
  · have hb : (BitVec.ofNat 16 (0xFE00 + i)).toNat = 0xFE00 + i := by
      rw [BitVec.toNat_ofNat, Nat.mod_eq_of_lt (by omega)]
    rw [ht, memRead_oamDma, hb, if_pos (by omega), Nat.add_sub_cancel_left]
  · exact memRead_oamDma_of_not_oam u v hb
  · obtain ⟨m, hm⟩ := oamDma_only_mem u v
    rw [ht, hm]

/-- Settles O50: register by register for each mapper. -/
theorem mapperRegisters : Obligations.MapperRegisters := by
  intro s addr v haddr a t c d
  have hr : regionOf addr.toNat = .rom := regionOf_of_bounds (Nat.zero_le _) haddr
  have ht : t = { s with cart := c.writeRegister a v } := memWrite_rom s v hr
  have hd : d = c.writeRegister a v := congrArg State.cart ht
  have hread : memRead s addr = s.romByte (c.romOffset a) := memRead_rom s hr
  clear_value d t
  subst hd
  rw [c.romOffset_eq haddr] at hread
  refine ⟨ht, fun hm => ?_, fun hm => ⟨?_, ?_⟩, fun hm => ?_, fun hm => ?_, fun hm => ?_⟩
  · rw [hread, if_pos (.inl hm), Cart.writeRegister, hm]
    exact ⟨rfl, rfl⟩
  · cases hm' : c.mapper <;> rw [Cart.writeRegister, hm']
    · exact absurd hm' hm
    · exact c.write1_ramEn a v
    · exact c.write3_ramEn a v
    · exact c.write5_ramEn a v
  · simp only [hread, hm, false_or]
    split <;> rfl
  · rw [Cart.writeRegister, hm]
    have e := c.write1_eq a v
    have hrom := congrArg Cart.romBank e
    have hram := congrArg Cart.ramBank e
    exact ⟨c.write1_bankLo a v, c.write1_bankHi a v, c.write1_bankMode a v, hrom, hram,
      e.trans (by rw [hrom, hram])⟩
  · rw [Cart.writeRegister, hm]
    exact ⟨c.write3_romBank a v, c.write3_ramBank a v, c.write3_eq a v⟩
  · rw [Cart.writeRegister, hm]
    exact ⟨c.write5_romLo a v, c.write5_romHi a v, c.write5_romBank a v, c.write5_ramBank a v,
      c.write5_rumble a v, c.write5_eq a v⟩

/-- Settles O51: by what each mapper's access reaches. -/
theorem externalRam : Obligations.ExternalRam := by
  intro s addr v hlo hhi c offset reaches nothing
  have hr : regionOf addr.toNat = .external := regionOf_of_bounds hlo hhi
  have hnothing (ht : c.extTarget addr.toNat = .nothing) : nothing := access_nothing v hr ht
  have hreaches {bank : Nat} (ht : c.extTarget addr.toNat = .ram (c.ramOffset bank addr.toNat)) :
      reaches bank := by
    rw [c.ramOffset_eq bank hlo hhi] at ht
    exact access_ram v hr ht
  refine ⟨fun hm => ?_, fun hm => ?_, fun hm => ?_⟩
  · split
    case isTrue h => exact hreaches (by simp only [Cart.extTarget, hm, h, if_true])
    case isFalse h => exact hnothing (by simp only [Cart.extTarget, hm, h, if_false])
  · have htarget : c.extTarget addr.toNat =
        if c.ramEn && decide (0 < c.ramBanks) then .ram (c.ramOffset c.ramBank addr.toNat)
        else .nothing := by
      rcases hm with hm | hm <;> rw [Cart.extTarget, hm]
    split
    case isTrue h => exact hreaches (by rw [htarget, if_pos (by simp [h])])
    case isFalse h => exact hnothing (by rw [htarget, if_neg (by simpa using h)])
  · have htarget : c.extTarget addr.toNat =
        if c.ramEn = false then .nothing
        else if c.ramBank ≤ 3 ∧ 0 < c.ramBanks then
          .ram (c.ramOffset (c.ramBank % c.ramBanks) addr.toNat)
        else if 8 ≤ c.ramBank ∧ c.ramBank ≤ 12 then .clock (c.ramBank - 8)
        else .nothing := by
      rw [Cart.extTarget, hm]
      cases c.ramEn <;> rfl
    split_ifs with hoff hram hclock
    · exact hnothing (by rw [htarget, if_pos hoff])
    · exact hreaches (by rw [htarget, if_neg hoff, if_pos hram])
    · exact access_clock v hr (by rw [htarget, if_neg hoff, if_neg hram, if_pos hclock])
    · exact hnothing (by rw [htarget, if_neg hoff, if_neg hram, if_neg hclock])

end Sys2Proof.Proofs
end

section
/-! SUPPORT. The encoder and the decoder over all instructions and over all bytes
(30_encoding.md R180 to R191). -/

namespace Sys2Proof.Laws

/-! ### From the instruction to its bytes and back -/

/-- The round trip for every instruction: a 16-bit operand is put together again from its two bytes,
and every other row is found in its map by evaluation. -/
theorem EncodingRoundTrip.all (i : Instr) : EncodingRoundTrip.Statement i := by
  cases i with
  | cbPrefix cbop => exact EncodingRoundTrip.cbPrefix cbop
  | ldBCD16 d16 => exact EncodingRoundTrip.ldBCD16 d16
  | ldDED16 d16 => exact EncodingRoundTrip.ldDED16 d16
  | ldHLD16 d16 => exact EncodingRoundTrip.ldHLD16 d16
  | ldSPD16 d16 => exact EncodingRoundTrip.ldSPD16 d16
  | ldIndA16SP a16 => exact EncodingRoundTrip.ldIndA16SP a16
  | ldIndA16A a16 => exact EncodingRoundTrip.ldIndA16A a16
  | ldAIndA16 a16 => exact EncodingRoundTrip.ldAIndA16 a16
  | jpA16 a16 => exact EncodingRoundTrip.jpA16 a16
  | jpNZA16 a16 => exact EncodingRoundTrip.jpNZA16 a16
  | jpZA16 a16 => exact EncodingRoundTrip.jpZA16 a16
  | jpNCA16 a16 => exact EncodingRoundTrip.jpNCA16 a16
  | jpCA16 a16 => exact EncodingRoundTrip.jpCA16 a16
  | callA16 a16 => exact EncodingRoundTrip.callA16 a16
  | callNZA16 a16 => exact EncodingRoundTrip.callNZA16 a16
  | callZA16 a16 => exact EncodingRoundTrip.callZA16 a16
  | callNCA16 a16 => exact EncodingRoundTrip.callNCA16 a16
  | callCA16 a16 => exact EncodingRoundTrip.callCA16 a16
  | _ => exact fun _ _ => rfl

/-- No bytes decode to nothing, so every well-formed instruction has bytes. -/
theorem encode_ne_nil {i : Instr} (hwf : i.wellFormed = true) : encode i ≠ [] := by
  intro hnil
  have hdec := EncodingRoundTrip.all i hwf []
  rw [hnil] at hdec
  cases hdec

/-! ### From the bytes to the instruction and back -/

/-- A byte is one of 256 numerals, at which the maps evaluate. -/
theorem exists_lt_eq_ofNat (b : Byte) : ∃ n < 256, b = BitVec.ofNat 8 n :=
  ⟨b.toNat, b.isLt, by simp⟩

/-- The instruction an entry of the primary map stands for, with `b` or `w` as its operand; for the CB
row, PREFIX CB with its second byte (30_encoding.md R187). -/
def Format.instr (b : Byte) (w : Word) : Format → Instr
  | .fixed i => i
  | .imm8 f => f b
  | .imm16 f => f w
  | .cbRow => .cbPrefix b

/-- The bytes that instruction has at opcode `op` (30_encoding.md R180, R183). -/
def Format.bytes (op b : Byte) (w : Word) : Format → List Byte
  | .fixed _ => [op]
  | .imm8 _ => [op, b]
  | .imm16 _ => [op, lowByte w, highByte w]
  | .cbRow => [op, b]

/-- Each entry of the primary map stands at its own opcode. -/
theorem encode_primaryRow (op b : Byte) (w : Word) :
    encode (Format.instr b w (primaryRow op)) = Format.bytes op b w (primaryRow op) := by
  obtain ⟨n, hn, rfl⟩ := exists_lt_eq_ofNat op
  interval_cases n <;> rfl

/-- Every opcode but 0xCB starts an instruction of the primary map (45_system.md R406). -/
theorem primaryRow_wellFormed (op b : Byte) (w : Word) :
    (Format.instr b w (primaryRow op)).wellFormed = (op != 0xCB) := by
  obtain ⟨n, hn, rfl⟩ := exists_lt_eq_ofNat op
  interval_cases n <;> rfl

/-- Each entry of the CB map stands at its own second byte (30_encoding.md R182, R188). -/
theorem encode_cbInstr (cbop : Byte) : encode (cbInstr cbop) = [0xCB, cbop] := by
  obtain ⟨n, hn, rfl⟩ := exists_lt_eq_ofNat cbop
  interval_cases n <;> rfl

theorem cbInstr_wellFormed (cbop : Byte) : (cbInstr cbop).wellFormed = true := by
  obtain ⟨n, hn, rfl⟩ := exists_lt_eq_ofNat cbop
  interval_cases n <;> rfl

/-- The bytes of a format begin any three bytes that hold its operand. -/
theorem Format.exists_bytes_append_eq (op b1 b2 : Byte) (f : Format) :
    ∃ rest, Format.bytes op b1 (wordOf b2 b1) f ++ rest = [op, b1, b2] := by
  cases f with
  | fixed _ => exact ⟨[b1, b2], rfl⟩
  | imm8 _ => exact ⟨[b2], rfl⟩
  | imm16 _ => exact ⟨[], by simp [Format.bytes]⟩
  | cbRow => exact ⟨[b2], rfl⟩

/-- Any three bytes begin with the encoding of a well-formed instruction. -/
theorem exists_encode_append_eq (op b1 b2 : Byte) :
    ∃ i rest, i.wellFormed = true ∧ encode i ++ rest = [op, b1, b2] := by
  by_cases hcb : op = 0xCB
  · exact ⟨cbInstr b1, [b2], cbInstr_wellFormed b1, by rw [encode_cbInstr, hcb]; rfl⟩
  · obtain ⟨rest, hrest⟩ := Format.exists_bytes_append_eq op b1 b2 (primaryRow op)
    refine ⟨Format.instr b1 (wordOf b2 b1) (primaryRow op), rest, ?_, ?_⟩
    · rw [primaryRow_wellFormed, bne_iff_ne]
      exact hcb
    · rw [encode_primaryRow, hrest]

end Sys2Proof.Laws
end

section
/-! SUPPORT. The ways of the CPU step, and what each does to the latches (30_encoding.md R190 to R193,
60_exceptions.md R424, R505). -/

namespace Sys2Proof.Machine

/-! ### Which way a step goes -/

theorem hasPending_eq_true_iff {s : State} : hasPending s = true ↔ pendingSet s ≠ 0 := by
  simp [hasPending]

theorem hasPending_eq_false_iff {s : State} : hasPending s = false ↔ pendingSet s = 0 := by
  simp [hasPending]

/-- A machine without a stop reason takes a machine step (10_state.md R41). -/
theorem step_eq_machineStep {s : State} (hfault : s.fault = none) (hrefused : s.refused = none) :
    step s = machineStep s := by rw [step, stepOrStopped, hfault, hrefused]

theorem cpuStep_of_dispatch {s : State} (hime : s.latch.ime = true) (hpend : pendingSet s ≠ 0) :
    cpuStep s = .next (dispatchInterrupt s) := by
  rw [cpuStep, hime, hasPending_eq_true_iff.mpr hpend]
  rfl

theorem cpuStep_of_halted {s : State} (hhalted : s.latch.halted = true) (hpend : pendingSet s = 0) :
    cpuStep s = .next (haltedQuantum s) := by
  rw [cpuStep, hhalted, hasPending_eq_false_iff.mpr hpend, Bool.and_false]
  rfl

/-- With no interrupt to take and no halted quantum to spend, the step executes an instruction. -/
theorem cpuStep_of_running {s : State} (hdispatch : ¬(s.latch.ime = true ∧ pendingSet s ≠ 0))
    (hquantum : ¬(s.latch.halted = true ∧ pendingSet s = 0)) :
    cpuStep s = fetchAndExecute s.wake := by
  rw [cpuStep, if_neg, if_neg]
  · simpa only [Bool.and_eq_true, Bool.not_eq_true', hasPending_eq_false_iff] using hquantum
  · simpa only [Bool.and_eq_true, hasPending_eq_true_iff] using hdispatch

@[simp] theorem dispatchInterrupt_latch (s : State) :
    (dispatchInterrupt s).latch =
      { s.latch with ime := false, halted := false, haltBug := false } :=
  push16_latch _ _

/-! ### Fetch, execute, promote -/

@[simp] theorem fetchBytes_wake (s : State) : fetchBytes s.wake = fetchBytes s := rfl

theorem fetchAndExecute_of_decode {s : State} {i : Instr} {rest : List Byte}
    (hdec : decode (fetchBytes s) = .ok (i, rest)) :
    fetchAndExecute s = mapNext (promoteIme s.latch.imePending) (exec i s) := by
  rw [fetchAndExecute, hdec]

theorem fetchAndExecute_of_next {s t : State} {i : Instr} {rest : List Byte}
    (hdec : decode (fetchBytes s) = .ok (i, rest)) (hexec : exec i s = .next t) :
    fetchAndExecute s = .next (promoteIme s.latch.imePending t) := by
  rw [fetchAndExecute_of_decode hdec, hexec, mapNext]

theorem promoteIme_eq (pendingBefore : Bool) (t : State) :
    promoteIme pendingBefore t =
      if pendingBefore = true ∧ t.latch.imePending = true then
        { t with latch := { t.latch with ime := true, imePending := false } }
      else t := by simp only [promoteIme, Bool.and_eq_true]

@[simp] theorem promoteIme_false (t : State) : promoteIme false t = t := rfl

/-- An instruction that leaves ime_pending clear is followed by no promotion. -/
theorem promoteIme_of_not_pending {t : State} (pendingBefore : Bool)
    (h : t.latch.imePending = false) : promoteIme pendingBefore t = t := by simp [promoteIme_eq, h]

/-- EI (R405). -/
theorem exec_ei (s : State) :
    exec .ei s = .next (finish (enableAfterNext s.clearHaltBug) (nextPc s 1) 4) := rfl

/-- DI (R401). -/
theorem exec_di (s : State) :
    exec .di s = .next (finish (disableInterrupts s.clearHaltBug) (nextPc s 1) 4) := rfl

end Sys2Proof.Machine
end

section
/-! SUPPORT. The statements of the family 30_encoding.md settled. -/

namespace Sys2Proof.Proofs

open Sys2Proof.Machine

/-- Settles O36: by cases on the instruction, in `EncodingRoundTrip.all`. -/
theorem decodeUndoesEncode : Obligations.DecodeUndoesEncode := Laws.EncodingRoundTrip.all

/-- Settles O37: the bytes begin with an encoding, and decoding undoes it. -/
theorem encodeUndoesDecode : Obligations.EncodeUndoesDecode := by
  intro op b1 b2
  obtain ⟨i, rest, hwf, hbytes⟩ := Laws.exists_encode_append_eq op b1 b2
  have hdec : decode [op, b1, b2] = .ok (i, rest) := hbytes ▸ decodeUndoesEncode i hwf rest
  have hpos : 0 < (encode i).length := List.length_pos_iff.mpr (Laws.encode_ne_nil hwf)
  have hlen : (encode i).length + rest.length = 3 := by
    rw [← List.length_append, hbytes]
    rfl
  exact ⟨i, rest, hdec, hwf, hbytes, hpos, by rw [Instr.length]; omega⟩

/-- Settles O40: each clause by the way the step goes; EI and DI by the latches they leave. -/
theorem imePromotion : Obligations.ImePromotion := by
  intro s pend
  refine ⟨fun i rest t hdec hexec => ?_, fun rest hdec hclear => ?_, fun rest hdec => ?_,
    fun hime hpend => ?_, fun hhalted hpend => ?_⟩
  · rw [fetchAndExecute_of_next hdec hexec, promoteIme_eq]
  · have hnext := fetchAndExecute_of_next hdec (exec_ei s)
    rw [hclear, promoteIme_false] at hnext
    exact ⟨_, hnext, rfl, rfl⟩
  · have hnext := fetchAndExecute_of_next hdec (exec_di s)
    rw [promoteIme_of_not_pending _ rfl] at hnext
    exact ⟨_, hnext, rfl, rfl⟩
  · exact ⟨_, cpuStep_of_dispatch hime hpend, by simp, by simp⟩
  · exact ⟨_, cpuStep_of_halted hhalted hpend, rfl⟩

/-- Settles O35: by evaluation of the decoder on each word. -/
theorem mapWordsDecode : Obligations.MapWordsDecode :=
  ⟨rfl, rfl, rfl, rfl, rfl, rfl, rfl, rfl, rfl, rfl, rfl, rfl, rfl, rfl, rfl, rfl⟩

/-- Settles O38: the step is a machine step, whose CPU step executes what the bytes decode to. -/
theorem stepRunsDecodedInstruction : Obligations.StepRunsDecodedInstruction := by
  intro s i rest u ob pend hfault hrefused hdispatch hquantum hdec
  have hcpu : cpuStep u = fetchAndExecute u.wake := cpuStep_of_running hdispatch hquantum
  have hfetch : decode (fetchBytes u.wake) = .ok (i, rest) := by rwa [fetchBytes_wake]
  rw [step_eq_machineStep hfault hrefused, Machine.machineStep, hcpu,
    fetchAndExecute_of_decode hfetch]
  rfl

end Sys2Proof.Proofs
end

section
/-! SUPPORT. The frames of the instructions that store: reads and registers after one store, after two,
and after a push (20_memory.md R101 to R113, 44_control.md R380). -/

namespace Sys2Proof.Machine

/-- No read looks at the register file or the cycles recorded. -/
theorem SameButRegs.memRead_eq {u t : State} (h : SameButRegs u t) (b : Word) :
    memRead t b = memRead u b := by
  rw [SameButRegs] at h
  rw [h]
  rfl

/-- Completing after any change of the register file leaves the rest. -/
theorem sameButRegs_finish (u : State) (r : Regs) (pc : Word) (n : Nat) :
    SameButRegs u (finish (u.withRegs r) pc n) := rfl

/-! ### One store and two -/

/-- A state that is a write's but for the register file is as one store leaves it. -/
theorem storesByte_of_sameButRegs {s t : State} {a : Word} {v : Byte}
    (h : SameButRegs (memWrite s.clearHaltBug a v) t) : StoresByte s t a v := by
  refine ⟨fun hback => ?_, fun b hb => ?_, h⟩
  · rw [h.memRead_eq]
    exact Proofs.writeThenRead s.clearHaltBug a v hback
  · rw [h.memRead_eq]
    exact Proofs.writeLeavesOthers s.clearHaltBug a b v hb

/-- A state that is two writes' but for the register file is as two stores leave it. -/
theorem storesTwo_of_sameButRegs {s t : State} {a b : Word} {v w : Byte}
    (h : SameButRegs (memWrite (memWrite s.clearHaltBug a v) b w) t) : StoresTwo s t a v b w := by
  unfold StoresTwo
  intro first
  refine ⟨fun hback => ?_, fun hback ha => ?_, fun x hfirst hsecond => ?_, h⟩
  · rw [h.memRead_eq]
    exact Proofs.writeThenRead first b w hback
  · calc memRead t a = memRead (memWrite first b w) a := h.memRead_eq a
      _ = memRead first a := Proofs.writeLeavesOthers first b a w ha
      _ = v := Proofs.writeThenRead s.clearHaltBug a v hback
  · calc memRead t x = memRead (memWrite first b w) x := h.memRead_eq x
      _ = memRead first x := Proofs.writeLeavesOthers first b x w hsecond
      _ = memRead s x := Proofs.writeLeavesOthers s.clearHaltBug a x v hfirst

/-- Storing one byte and completing. -/
theorem storesOnly_finish (s : State) (a : Word) (v : Byte) (len n : Nat) :
    StoresOnly s (finish (memWrite s.clearHaltBug a v) (nextPc s len) n) a v len n := by
  refine ⟨storesByte_of_sameButRegs rfl, fun k _ => ?_, ?_, ?_, rfl, rfl⟩
  · rw [State.reg_finish, State.reg_memWrite, State.reg_clearHaltBug]
  · simp [KeepsFlags]
  · simp [KeepsSp]

/-! ### The stack -/

/-- Pushing a word and completing. -/
theorem pushesWord_finish (s : State) (v pc : Word) (n : Nat) :
    PushesWord s (finish (push16 s.clearHaltBug v) pc n) v := by
  refine ⟨by simp, storesTwo_of_sameButRegs ?_⟩
  rw [push16_eq]
  rfl

/-- A push leaves every 8-bit register. -/
@[simp] theorem State.reg_push16 (s : State) (v : Word) (k : Reg8) :
    (push16 s v).reg k = s.reg k := by
  rw [State.reg, push16_regs]
  cases k <;> rfl

end Sys2Proof.Machine
end

section
/-! SUPPORT. Register pairs beside single registers, and the byte form of the flags (10_state.md R31,
R32). -/

namespace Sys2Proof.Machine

/-! ### Pairs -/

theorem Regs.get_putPair_other (r : Regs) {p : Pair} {k : Reg8} (v : Word) (h : k ∉ p.halves) :
    (r.putPair p v).get k = r.get k := by
  cases p <;> cases k <;> simp [Pair.halves] at h <;> rfl

theorem Regs.putPair_sp (r : Regs) {p : Pair} (v : Word) (h : p ≠ .sp) :
    (r.putPair p v).sp = r.sp := by
  cases p with
  | sp => exact absurd rfl h
  | bc | de | hl => rfl

@[simp] theorem State.pair_finish (s : State) (pc : Word) (n : Nat) (p : Pair) :
    (finish s pc n).pair p = s.pair p := by cases p <;> rfl

theorem Regs.get_putStackPair_other (r : Regs) {p : StackPair} {k : Reg8} (v : Word)
    (h : k ∉ p.halves) : (r.putStackPair p v).get k = r.get k := by
  cases p <;> cases k <;> simp [StackPair.halves] at h <;> rfl

theorem Regs.putStackPair_flags (r : Regs) {p : StackPair} (v : Word) (h : p ≠ .af) :
    (r.putStackPair p v).flags = r.flags := by
  cases p with
  | af => exact absurd rfl h
  | bc | de | hl => rfl

@[simp] theorem Regs.putStackPair_sp (r : Regs) (p : StackPair) (v : Word) :
    (r.putStackPair p v).sp = r.sp := by cases p <;> rfl

theorem State.getStackPair_finish (s : State) (pc : Word) (n : Nat) (p : StackPair) :
    (finish s pc n).regs.getStackPair p = s.regs.getStackPair p := by cases p <;> rfl

/-! ### F as a byte -/

/-- F holds the four flag bits of the byte written to it, and zeros below them. -/
theorem Flags.toByte_ofByte (v : Byte) : (Flags.ofByte v).toByte = v &&& 0xF0 := by
  revert v; decide

theorem Flags.toByte_and_lowNibble (f : Flags) : f.toByte &&& 0x0F = 0 := by
  obtain ⟨z, n, h, c⟩ := f
  revert z n h c
  decide

@[simp] theorem Regs.highByte_getStackPair_putStackPair (r : Regs) (p : StackPair) (v : Word) :
    highByte ((r.putStackPair p v).getStackPair p) = highByte v := by
  cases p <;> exact highByte_wordOf _ _

/-- What a pair gives back of the low byte put in it: all of it, but the flag bits only for AF. -/
theorem Regs.lowByte_getStackPair_putStackPair (r : Regs) (p : StackPair) (v : Word) :
    lowByte ((r.putStackPair p v).getStackPair p) =
      if p = .af then lowByte v &&& 0xF0 else lowByte v := by
  cases p with
  | af => exact (lowByte_wordOf _ _).trans (Flags.toByte_ofByte _)
  | bc | de | hl => exact lowByte_wordOf _ _

end Sys2Proof.Machine
end

section
/-! SUPPORT. What each shared operation of the loads answers and leaves (40_load.md R220 to R244). -/

namespace Sys2Proof.Machine

variable (s : State)

/-! ### Encodings of the forms -/

theorem encode_ldReg (dst src : Reg8) :
    encode (Forms.ldReg dst src) = [1#2 ++ (dst.code ++ src.code)] := by
  cases dst <;> cases src <;> rfl
theorem encode_ldFromHl (r : Reg8) : encode (Forms.ldFromHl r) = [1#2 ++ (r.code ++ 6#3)] := by
  cases r <;> rfl
theorem encode_ldToHl (r : Reg8) : encode (Forms.ldToHl r) = [1#2 ++ (6#3 ++ r.code)] := by
  cases r <;> rfl
theorem encode_ldImm (r : Reg8) (v : Byte) :
    encode (Forms.ldImm r v) = [0#2 ++ (r.code ++ 6#3), v] := by cases r <;> rfl
theorem encode_ldPair (p : Pair) (w : Word) :
    encode (Forms.ldPair p w) = [0#2 ++ (p.code ++ 1#4), lowByte w, highByte w] := by
  cases p <;> rfl
theorem encode_push (p : StackPair) : encode (Forms.push p) = [3#2 ++ (p.code ++ 5#4)] := by
  cases p <;> rfl
theorem encode_pop (p : StackPair) : encode (Forms.pop p) = [3#2 ++ (p.code ++ 1#4)] := by
  cases p <;> rfl

/-! ### One byte -/

/-- The address is that of the registers as they were before the load. -/
theorem loadFrom_next (len n : Nat) (dst : Reg8) (addr : State → Word) :
    ∃ t, loadFrom len n dst addr s = .next t
      ∧ SetsRegister s t dst (memRead s (addr s.clearHaltBug)) len n :=
  ⟨_, rfl, setsRegister_finish s dst _ len n⟩

theorem storeTo_next (len n : Nat) (addr : State → Word) (src : Reg8) :
    ∃ t, storeTo len n addr src s = .next t
      ∧ StoresOnly s t (addr s.clearHaltBug) (s.reg src) len n :=
  ⟨_, rfl, storesOnly_finish s _ _ len n⟩

/-- LD A,(HL+) and LD A,(HL-) (R230, R231). -/
theorem loadStep_next (step : Word) :
    ∃ t, loadStep step s = .next t ∧ t.regs.a = memRead s (s.pair .hl)
      ∧ t.pair .hl = s.pair .hl + step ∧ KeepsFlags s t ∧ KeepsSp s t ∧ Advances s t 1 8
      ∧ RegisterOnly s t [.a, .h, .l] := by
  refine ⟨_, rfl, rfl, ?_, rfl, rfl, ⟨rfl, rfl⟩, registerOnly_finish _ _ fun k hk => ?_⟩
  · rw [State.pair_finish, State.pair_setPair_same]
    rfl
  · simp only [List.mem_cons, not_or] at hk
    obtain ⟨ha, hhl⟩ := hk
    rw [Regs.get_putPair_other _ _ (by simpa [Pair.halves] using hhl)]
    exact Regs.get_put_other _ _ _ _ ha

/-- LD (HL+),A and LD (HL-),A (R232, R233). -/
theorem storeStep_next (step : Word) :
    ∃ t, storeStep step s = .next t ∧ StoresByte s t (s.pair .hl) s.regs.a
      ∧ t.pair .hl = s.pair .hl + step ∧ KeepsRegs s t [.h, .l] ∧ KeepsFlags s t ∧ KeepsSp s t
      ∧ Advances s t 1 8 := by
  refine ⟨_, rfl, storesByte_of_sameButRegs (sameButRegs_finish _ _ _ _), ?_, fun k hk => ?_, ?_,
    ?_, rfl, rfl⟩
  · rw [State.pair_finish, State.pair_setPair_same]
    rfl
  · rw [State.reg_finish]
    exact (Regs.get_putPair_other _ _ hk).trans (State.reg_memWrite _ _ _ _)
  · simp [KeepsFlags]
  · simp [KeepsSp, Regs.putPair_sp]

/-! ### Pairs -/

/-- LD rr,d16 (R240). -/
theorem loadPair_next (p : Pair) (w : Word) :
    ∃ t, loadPair p w s = .next t ∧ t.pair p = w ∧ KeepsFlags s t ∧ (p ≠ .sp → KeepsSp s t)
      ∧ Advances s t 3 12 ∧ RegisterOnly s t p.halves := by
  refine ⟨_, rfl, ?_, ?_, fun hp => ?_, ⟨rfl, rfl⟩, registerOnly_finish _ _ fun k hk => ?_⟩
  · rw [State.pair_finish, State.pair_setPair_same]
  · exact Regs.putPair_flags _ _ _
  · exact Regs.putPair_sp _ _ hp
  · exact Regs.get_putPair_other _ _ hk

/-- LD SP,HL (R242). -/
theorem loadSpHl_next :
    ∃ t, loadSpHl s = .next t ∧ t.regs.sp = s.pair .hl ∧ KeepsFlags s t ∧ Advances s t 1 8
      ∧ RegisterOnly s t [] :=
  ⟨_, rfl, rfl, rfl, ⟨rfl, rfl⟩, registerOnly_finish _ _ fun k _ => by cases k <;> rfl⟩

/-- LD (a16),SP (R241). -/
theorem storeSp_next (a : Word) :
    ∃ t, storeSp a s = .next t
      ∧ StoresTwo s t a (lowByte s.regs.sp) (a + 1) (highByte s.regs.sp)
      ∧ KeepsRegs s t [] ∧ KeepsFlags s t ∧ KeepsSp s t ∧ Advances s t 3 20 := by
  refine ⟨_, rfl, storesTwo_of_sameButRegs rfl, fun k _ => ?_, ?_, ?_, rfl, rfl⟩
  · simp [memWrite16]
  · simp [KeepsFlags, memWrite16]
  · simp [KeepsSp, memWrite16]

/-- PUSH rr (R243). -/
theorem pushPair_next (p : StackPair) :
    ∃ t, pushPair p s = .next t ∧ PushesWord s t (s.regs.getStackPair p) ∧ KeepsRegs s t []
      ∧ KeepsFlags s t ∧ Advances s t 1 16 := by
  refine ⟨_, rfl, pushesWord_finish s _ _ _, fun k _ => ?_, ?_, rfl, rfl⟩
  · rw [State.reg_finish, State.reg_push16, State.reg_clearHaltBug]
  · simp [KeepsFlags]

/-- POP rr (R244). -/
theorem popPair_next (p : StackPair) :
    ∃ t, popPair p s = .next t
      ∧ highByte (t.regs.getStackPair p) = memRead s (s.regs.sp + 1)
      ∧ lowByte (t.regs.getStackPair p)
          = (if p = .af then memRead s s.regs.sp &&& 0xF0 else memRead s s.regs.sp)
      ∧ (p ≠ .af → KeepsFlags s t) ∧ t.regs.sp = s.regs.sp + 2 ∧ Advances s t 1 12
      ∧ RegisterOnly s t p.halves := by
  refine ⟨_, rfl, ?_, ?_, fun hp => ?_, ?_, ⟨rfl, rfl⟩, registerOnly_finish _ _ fun k hk => ?_⟩
  · rw [State.getStackPair_finish]
    simp [stackTop]
  · rw [State.getStackPair_finish]
    simp [stackTop, Regs.lowByte_getStackPair_putStackPair]
  · simp [KeepsFlags, Regs.putStackPair_flags _ _ hp]
  · simp
  · rw [Regs.get_putStackPair_other _ _ hk]
    cases k <;> rfl

end Sys2Proof.Machine
end

section
/-! SUPPORT. The statements of the family 40_load.md settled. -/

namespace Sys2Proof.Proofs

open Sys2Proof.Machine

/-- Settles O1: all 49 pairs are one operation of the two registers. -/
theorem loadRegisterFromRegister : Obligations.LoadRegisterFromRegister := fun s dst src =>
  ⟨encode_ldReg dst src, _, exec_ldReg s dst src, setsRegister_finish s dst (s.reg src) 1 4⟩

/-- Settles O2: the address is taken before the register is set. -/
theorem registerAndMemoryAtHl : Obligations.RegisterAndMemoryAtHl := by
  intro s r
  rw [exec_ldFromHl, exec_ldToHl]
  exact ⟨⟨encode_ldFromHl r, loadFrom_next s 1 8 r State.hl⟩,
    ⟨encode_ldToHl r, storeTo_next s 1 8 State.hl r⟩⟩

/-- Settles O3: one register set, or one byte stored. -/
theorem loadImmediateByte : Obligations.LoadImmediateByte := fun s dst d8 =>
  ⟨⟨encode_ldImm dst d8, _, exec_ldImm s dst d8, setsRegister_finish s dst d8 2 8⟩,
    rfl, _, rfl, storesOnly_finish s (s.pair .hl) d8 2 12⟩

/-- Settles O4: the five forms differ in their address and their length only. -/
theorem loadAccumulator : Obligations.LoadAccumulator := fun s a16 a8 =>
  ⟨⟨rfl, loadFrom_next s 1 8 .a fun t => t.pair .bc⟩,
    ⟨rfl, loadFrom_next s 1 8 .a fun t => t.pair .de⟩,
    ⟨rfl, loadFrom_next s 3 16 .a fun _ => a16⟩,
    ⟨rfl, loadFrom_next s 2 12 .a fun _ => highPage a8⟩,
    ⟨rfl, loadFrom_next s 1 8 .a fun t => highPage t.regs.c⟩⟩

/-- Settles O5: the five forms differ in their address and their length only. -/
theorem storeAccumulator : Obligations.StoreAccumulator := fun s a16 a8 =>
  ⟨⟨rfl, storeTo_next s 1 8 (fun t => t.pair .bc) .a⟩,
    ⟨rfl, storeTo_next s 1 8 (fun t => t.pair .de) .a⟩,
    ⟨rfl, storeTo_next s 3 16 (fun _ => a16) .a⟩,
    ⟨rfl, storeTo_next s 2 12 (fun _ => highPage a8) .a⟩,
    ⟨rfl, storeTo_next s 1 8 (fun t => highPage t.regs.c) .a⟩⟩

/-- Settles O6: HL steps by 1 or by -1, and adding -1 is subtracting 1. -/
theorem stepHlTransfers : Obligations.StepHlTransfers := by
  intro s
  rw [BitVec.sub_eq_add_neg]
  exact ⟨⟨rfl, loadStep_next s 1⟩, ⟨rfl, loadStep_next s (-1)⟩, ⟨rfl, storeStep_next s 1⟩,
    ⟨rfl, storeStep_next s (-1)⟩⟩

/-- Settles O7: a pair set, or SP. -/
theorem loadPairs : Obligations.LoadPairs := by
  intro s p d16
  rw [exec_ldPair]
  exact ⟨⟨encode_ldPair p d16, loadPair_next s p d16⟩, rfl, loadSpHl_next s⟩

/-- Settles O8: two stores. -/
theorem storeStackPointer : Obligations.StoreStackPointer := fun s a16 => ⟨rfl, storeSp_next s a16⟩

/-- Settles O9: a push, and the low nibble of F. -/
theorem pushPair : Obligations.PushPair := by
  intro s p
  rw [exec_push]
  refine ⟨encode_push p, ?_, pushPair_next s p⟩
  rw [Regs.getStackPair, lowByte_wordOf]
  exact Flags.toByte_and_lowNibble _

/-- Settles O10: the word at SP goes to the pair. -/
theorem popPair : Obligations.PopPair := by
  intro s p
  rw [exec_pop]
  exact ⟨encode_pop p, popPair_next s p⟩

end Sys2Proof.Proofs
end

section
/-! SUPPORT. The result and flag functions of the 8-bit operations meet the spec's recipes
(41_alu8.md R261 to R263, R288, R290, R292). -/

namespace Sys2Proof.Machine

/-! ### Arithmetic and logic -/

theorem add8_recipe (a b : Byte) (c : Bool) :
    AddRecipe a b c.toNat (add8 a b c).1 (add8 a b c).2 :=
  ⟨BitVec.toNat_ofNat _ _, beq_iff_eq, rfl, decide_eq_true_iff, decide_eq_true_iff⟩

theorem sub8_recipe (a b : Byte) (c : Bool) :
    SubRecipe a b c.toNat (sub8 a b c).1 (sub8 a b c).2 := by
  refine ⟨?_, beq_iff_eq, rfl, decide_eq_true_iff, decide_eq_true_iff⟩
  have ha := a.isLt
  have hb := b.isLt
  have hc := c.toNat_le
  simp only [sub8, BitVec.toNat_sub, BitVec.toNat_ofNat]
  omega

theorem logic8_recipe {bitOf : Bool → Bool → Bool} {a b res : Byte} (h : Bool)
    (hbits : ∀ i, res.getLsbD i = bitOf (a.getLsbD i) (b.getLsbD i)) :
    LogicRecipe bitOf a b h (logic8 res h).1 (logic8 res h).2 :=
  ⟨fun i _ => hbits i, beq_iff_eq, rfl, rfl, rfl⟩

/-- Each ALU operation by the recipe of its kind. -/
theorem AluOp.apply_recipe (op : AluOp) (a v : Byte) (c : Bool) :
    AluRecipe op a v c (op.apply a v c).1 (op.apply a v c).2 := by
  cases op with
  | add => exact add8_recipe a v false
  | adc => exact add8_recipe a v c
  | sub => exact sub8_recipe a v false
  | sbc => exact sub8_recipe a v c
  | and => exact logic8_recipe true fun _ => BitVec.getLsbD_and
  | xor => exact logic8_recipe false fun _ => BitVec.getLsbD_xor
  | or => exact logic8_recipe false fun _ => BitVec.getLsbD_or
  | cp => exact ⟨rfl, _, sub8_recipe a v false⟩

/-! ### Increment and decrement -/

theorem incFlags_recipe (v : Byte) (f : Flags) : IncRecipe v f (incFlags v f) := by
  have hz : v + 1 = 0 ↔ v = 0xFF := by bv_omega
  exact ⟨beq_iff_eq.trans hz, rfl, decide_eq_true_iff, rfl⟩

theorem decFlags_recipe (v : Byte) (f : Flags) : DecRecipe v f (decFlags v f) := by
  have hz : v - 1 = 0 ↔ v = 1 := by bv_omega
  exact ⟨beq_iff_eq.trans hz, rfl, decide_eq_true_iff, rfl⟩

/-! ### Decimal adjust -/

/-- The first stage of DAA leaves the low nibble, so that the model tests A as it was. -/
theorem toNat_add_0x60_mod (a : Byte) : (a + 0x60).toNat % 16 = a.toNat % 16 := by
  rw [BitVec.toNat_add]
  change (a.toNat + 96) % 256 % 16 = _
  omega

/-- After an addition DAA is two stages, the second on what the first left. -/
theorem daa8_of_addition {a : Byte} {f : Flags} (hn : f.n = false) :
    ∃ a1 : Byte,
      ((f.c = true ∨ 0x99 < a.toNat) ∧ a1 = a + 0x60 ∧ (daa8 a f).2.c = true
        ∨ ¬(f.c = true ∨ 0x99 < a.toNat) ∧ a1 = a ∧ (daa8 a f).2.c = f.c)
      ∧ ((f.h = true ∨ 9 < a1.toNat % 16) ∧ (daa8 a f).1 = a1 + 0x06
        ∨ ¬(f.h = true ∨ 9 < a1.toNat % 16) ∧ (daa8 a f).1 = a1) := by
  by_cases high : f.c = true ∨ 0x99 < a.toNat
  · refine ⟨a + 0x60, .inl ⟨high, rfl, by simpa [daa8, hn] using high⟩, ?_⟩
    rw [toNat_add_0x60_mod]
    by_cases low : f.h = true ∨ 9 < a.toNat % 16
    · exact .inl ⟨low, by simp [daa8, hn, high, low, BitVec.add_assoc]⟩
    · exact .inr ⟨low, by simp [daa8, hn, high, low]⟩
  · obtain ⟨hc, ha⟩ := not_or.mp high
    refine ⟨a, .inr ⟨high, rfl, by simp [daa8, hn, hc, ha]⟩, ?_⟩
    by_cases low : f.h = true ∨ 9 < a.toNat % 16
    · exact .inl ⟨low, by simp [daa8, hn, high, low]⟩
    · exact .inr ⟨low, by simp [daa8, hn, high, low]⟩

/-- After a subtraction DAA takes off what C and H ask for. -/
theorem daa8_of_subtraction {a : Byte} {f : Flags} (hn : f.n = true) :
    (daa8 a f).1 = a - (if f.c = true then 0x60 else 0) - (if f.h = true then 0x06 else 0)
      ∧ (daa8 a f).2.c = f.c := by
  simp [daa8, hn, BitVec.sub_sub]

end Sys2Proof.Machine
end

section
/-! SUPPORT. What each shared operation of the 8-bit arithmetic and logic answers and leaves
(41_alu8.md R260 to R295). -/

namespace Sys2Proof.Machine

variable (s : State)

/-! ### Encodings of the forms -/

theorem encode_aluReg (op : AluOp) (src : Reg8) :
    encode (Forms.aluReg op src) = [2#2 ++ (op.code ++ src.code)] := by
  cases op <;> cases src <;> rfl
theorem encode_aluHl (op : AluOp) : encode (Forms.aluHl op) = [2#2 ++ (op.code ++ 6#3)] := by
  cases op <;> rfl
theorem encode_aluImm (op : AluOp) (v : Byte) :
    encode (Forms.aluImm op v) = [3#2 ++ (op.code ++ 6#3), v] := by cases op <;> rfl
theorem encode_incReg (r : Reg8) : encode (Forms.incReg r) = [0#2 ++ (r.code ++ 4#3)] := by
  cases r <;> rfl
theorem encode_decReg (r : Reg8) : encode (Forms.decReg r) = [0#2 ++ (r.code ++ 5#3)] := by
  cases r <;> rfl

/-! ### Registers and flags -/

/-- Completing after a change of A and the flags only. -/
theorem accumulatorOnly_finish (v : Byte) (f : Flags) (len n : Nat) :
    let t := finish (s.clearHaltBug.withRegs { s.regs with a := v, flags := f }) (nextPc s len) n
    KeepsSp s t ∧ Advances s t len n ∧ RegisterOnly s t [.a] := by
  refine ⟨rfl, ⟨rfl, rfl⟩, registerOnly_finish _ _ fun k hk => ?_⟩
  cases k with
  | a => exact absurd List.mem_cons_self hk
  | b | c | d | e | h | l => rfl

/-- Completing after a change of the flags only. -/
theorem flagsOnly_finish (f : Flags) (len n : Nat) :
    let t := finish (s.clearHaltBug.setFlags f) (nextPc s len) n
    KeepsSp s t ∧ Advances s t len n ∧ RegisterOnly s t [] :=
  ⟨rfl, ⟨rfl, rfl⟩, registerOnly_finish _ _ fun k _ => s.reg_setFlags f k⟩

/-- Completing after a change of one register and the flags. -/
theorem registerAndFlags_finish (k : Reg8) (v : Byte) (f : Flags) (len n : Nat) :
    let t := finish ((s.clearHaltBug.setReg k v).setFlags f) (nextPc s len) n
    t.reg k = v ∧ KeepsSp s t ∧ Advances s t len n ∧ RegisterOnly s t [k] := by
  refine ⟨?_, ?_, ⟨rfl, rfl⟩, registerOnly_finish _ _ fun j hj => ?_⟩
  · rw [State.reg_finish, State.reg_setFlags, State.reg_setReg_same]
  · exact Regs.put_sp _ _ _
  · exact (State.reg_setFlags _ f j).trans (Regs.get_put_other _ _ _ _ (by simpa using hj))

/-- Completing after a store and a change of the flags. -/
theorem storeAndFlags_finish (a : Word) (v : Byte) (f : Flags) (len n : Nat) :
    let t := finish ((memWrite s.clearHaltBug a v).setFlags f) (nextPc s len) n
    StoresByte s t a v ∧ KeepsRegs s t [] ∧ KeepsSp s t ∧ Advances s t len n := by
  refine ⟨storesByte_of_sameButRegs rfl, fun k _ => ?_, ?_, rfl, rfl⟩
  · rw [State.reg_finish, State.reg_setFlags, State.reg_memWrite, State.reg_clearHaltBug]
  · simp [KeepsSp]

/-! ### The operations -/

/-- The operand may depend on the state as it is fetched from. -/
theorem aluWith_next (op : AluOp) (operand : State → Byte) (len n : Nat) :
    ∃ t, complete len n (fun u => aluWith op (operand u) u) s = .next t
      ∧ AluRecipe op s.regs.a (operand s.clearHaltBug) s.regs.flags.c t.regs.a t.regs.flags
      ∧ KeepsSp s t ∧ Advances s t len n ∧ RegisterOnly s t [.a] :=
  ⟨_, rfl, op.apply_recipe _ _ _, accumulatorOnly_finish s _ _ len n⟩

theorem incReg_next (k : Reg8) :
    ∃ t, incReg k s = .next t ∧ t.reg k = s.reg k + 1
      ∧ IncRecipe (s.reg k) s.regs.flags t.regs.flags ∧ KeepsSp s t ∧ Advances s t 1 4
      ∧ RegisterOnly s t [k] := by
  obtain ⟨hreg, hframe⟩ := registerAndFlags_finish s k (s.reg k + 1) _ 1 4
  exact ⟨_, rfl, hreg, incFlags_recipe _ _, hframe⟩

theorem decReg_next (k : Reg8) :
    ∃ t, decReg k s = .next t ∧ t.reg k = s.reg k - 1
      ∧ DecRecipe (s.reg k) s.regs.flags t.regs.flags ∧ KeepsSp s t ∧ Advances s t 1 4
      ∧ RegisterOnly s t [k] := by
  obtain ⟨hreg, hframe⟩ := registerAndFlags_finish s k (s.reg k - 1) _ 1 4
  exact ⟨_, rfl, hreg, decFlags_recipe _ _, hframe⟩

theorem incAtHl_next :
    ∃ t, incAtHl s = .next t ∧ StoresByte s t (s.pair .hl) (memRead s (s.pair .hl) + 1)
      ∧ IncRecipe (memRead s (s.pair .hl)) s.regs.flags t.regs.flags
      ∧ KeepsRegs s t [] ∧ KeepsSp s t ∧ Advances s t 1 12 := by
  obtain ⟨hstore, hframe⟩ := storeAndFlags_finish s s.hl (s.atHl + 1) _ 1 12
  exact ⟨_, rfl, hstore, incFlags_recipe _ _, hframe⟩

theorem decAtHl_next :
    ∃ t, decAtHl s = .next t ∧ StoresByte s t (s.pair .hl) (memRead s (s.pair .hl) - 1)
      ∧ DecRecipe (memRead s (s.pair .hl)) s.regs.flags t.regs.flags
      ∧ KeepsRegs s t [] ∧ KeepsSp s t ∧ Advances s t 1 12 := by
  obtain ⟨hstore, hframe⟩ := storeAndFlags_finish s s.hl (s.atHl - 1) _ 1 12
  exact ⟨_, rfl, hstore, decFlags_recipe _ _, hframe⟩

end Sys2Proof.Machine
end

section
/-! SUPPORT. The statements of the family 41_alu8.md settled. -/

namespace Sys2Proof.Proofs

open Sys2Proof.Machine

/-- Settles O11: the operand is the register's byte. -/
theorem aluWithRegister : Obligations.AluWithRegister := by
  intro s op src
  rw [exec_aluReg]
  exact ⟨encode_aluReg op src, aluWith_next s op (fun u => u.reg src) 1 4⟩

/-- Settles O12: the operand is the byte at HL. -/
theorem aluWithMemory : Obligations.AluWithMemory := by
  intro s op
  rw [exec_aluHl]
  exact ⟨encode_aluHl op, aluWith_next s op State.atHl 1 8⟩

/-- Settles O13: the operand is the instruction's own byte. -/
theorem aluWithImmediate : Obligations.AluWithImmediate := by
  intro s op d8
  rw [exec_aluImm]
  exact ⟨encode_aluImm op d8, aluWith_next s op (fun _ => d8) 2 8⟩

/-- Settles O14: one register and the flags of its old byte. -/
theorem incDecRegister : Obligations.IncDecRegister := by
  intro s dst
  rw [exec_incReg, exec_decReg]
  exact ⟨⟨encode_incReg dst, incReg_next s dst⟩, ⟨encode_decReg dst, decReg_next s dst⟩⟩

/-- Settles O15: one store and the flags of the byte read before it. -/
theorem incDecMemory : Obligations.IncDecMemory := fun s =>
  ⟨⟨rfl, incAtHl_next s⟩, ⟨rfl, decAtHl_next s⟩⟩

/-- Settles O16: the two stages by `daa8_of_addition`, the corrections by `daa8_of_subtraction`. -/
theorem decimalAdjust : Obligations.DecimalAdjust := fun s =>
  ⟨rfl, _, rfl, daa8_of_addition, daa8_of_subtraction, beq_iff_eq, rfl, rfl,
    accumulatorOnly_finish s _ _ 1 4⟩

/-- Settles O17: A and two flags, or the flags only. -/
theorem complementAndCarry : Obligations.ComplementAndCarry := fun s =>
  ⟨⟨rfl, _, rfl, rfl, rfl, accumulatorOnly_finish s _ _ 1 4⟩,
    ⟨rfl, _, rfl, rfl, flagsOnly_finish s _ 1 4⟩, ⟨rfl, _, rfl, rfl, flagsOnly_finish s _ 1 4⟩⟩

end Sys2Proof.Proofs
end

section
/-! SUPPORT. What each shared operation of the 16-bit arithmetic answers and leaves
(42_alu16.md R320 to R325). -/

namespace Sys2Proof.Machine

/-! ### Encodings of the forms -/

theorem encode_addHl (p : Pair) : encode (Forms.addHl p) = [0#2 ++ (p.code ++ 9#4)] := by
  cases p <;> rfl
theorem encode_incPair (p : Pair) : encode (Forms.incPair p) = [0#2 ++ (p.code ++ 3#4)] := by
  cases p <;> rfl
theorem encode_decPair (p : Pair) : encode (Forms.decPair p) = [0#2 ++ (p.code ++ 11#4)] := by
  cases p <;> rfl

/-! ### The offset from SP -/

/-- Sign extension keeps the signed value, read modulo 65536. -/
theorem toNat_sext16 (v : Byte) : ((sext16 v).toNat : Int) = v.toInt % 65536 := by
  rw [sext16, BitVec.signExtend, BitVec.toNat_ofInt]
  omega

/-- The function of R320 meets the recipe of R320. -/
theorem spAdd_recipe (sp : Word) (n : Byte) :
    SpOffsetRecipe sp n (spAdd sp n).1 (spAdd sp n).2 := by
  refine ⟨?_, rfl, rfl, decide_eq_true_iff, decide_eq_true_iff⟩
  have hn := toNat_sext16 n
  simp only [spAdd, BitVec.toNat_add]
  omega

/-! ### Pairs and flags -/

theorem State.pair_setFlags (s : State) (f : Flags) (p : Pair) :
    (s.setFlags f).pair p = s.pair p := by
  cases p <;> rfl

/-- Setting a pair keeps the flags, so that writing the old ones after it changes nothing. -/
theorem State.setFlags_setPair_self (s : State) (p : Pair) (v : Word) :
    (s.setPair p v).setFlags s.regs.flags = s.setPair p v := by
  cases p <;> rfl

variable (s : State)

/-- Completing after a change of a pair and the flags. -/
theorem pairAndFlags_finish (p : Pair) (v : Word) (f : Flags) (len n : Nat) :
    let t := finish ((s.clearHaltBug.setPair p v).setFlags f) (nextPc s len) n
    t.pair p = v ∧ t.regs.flags = f ∧ (p ≠ .sp → KeepsSp s t) ∧ Advances s t len n
      ∧ RegisterOnly s t p.halves := by
  refine ⟨?_, rfl, fun hp => ?_, ⟨rfl, rfl⟩, registerOnly_finish _ _ fun k hk => ?_⟩
  · rw [State.pair_finish, State.pair_setFlags, State.pair_setPair_same]
  · exact Regs.putPair_sp _ _ hp
  · exact (State.reg_setFlags _ f k).trans (Regs.get_putPair_other _ _ hk)

/-! ### The operations -/

/-- ADD HL,rr (R321). -/
theorem addHlPair_next (p : Pair) :
    ∃ t, addHlPair p s = .next t
      ∧ (t.pair .hl).toNat = ((s.pair .hl).toNat + (s.pair p).toNat) % 65536
      ∧ t.regs.flags.z = s.regs.flags.z ∧ t.regs.flags.n = false
      ∧ (t.regs.flags.h = true ↔
          0x0FFF < (s.pair .hl).toNat % 4096 + (s.pair p).toNat % 4096)
      ∧ (t.regs.flags.c = true ↔ 0xFFFF < (s.pair .hl).toNat + (s.pair p).toNat)
      ∧ KeepsSp s t ∧ Advances s t 1 8 ∧ RegisterOnly s t [.h, .l] := by
  obtain ⟨hhl, -, hsp, hframe⟩ := pairAndFlags_finish s .hl (s.pair .hl + s.pair p)
    (addHl16 s.hl (s.pair p) s.regs.flags).2 1 8
  exact ⟨_, rfl, (congrArg BitVec.toNat hhl).trans (BitVec.toNat_add _ _), rfl, rfl,
    decide_eq_true_iff, decide_eq_true_iff, hsp (by decide), hframe⟩

/-- INC rr and DEC rr (R322, R323). -/
theorem addToPair_next (p : Pair) (delta : Word) :
    ∃ t, addToPair p delta s = .next t ∧ t.pair p = s.pair p + delta ∧ KeepsFlags s t
      ∧ (p ≠ .sp → KeepsSp s t) ∧ Advances s t 1 8 ∧ RegisterOnly s t p.halves := by
  have h := pairAndFlags_finish s p (s.pair p + delta) s.clearHaltBug.regs.flags 1 8
  rw [State.setFlags_setPair_self] at h
  exact ⟨_, rfl, h⟩

/-- ADD SP,e8 (R324). -/
theorem addSpImm_next (n : Byte) :
    ∃ t, addSpImm n s = .next t ∧ SpOffsetRecipe s.regs.sp n t.regs.sp t.regs.flags
      ∧ Advances s t 2 16 ∧ RegisterOnly s t [] := by
  obtain ⟨-, -, -, hframe⟩ :=
    pairAndFlags_finish s .sp (spAdd s.regs.sp n).1 (spAdd s.regs.sp n).2 2 16
  exact ⟨_, rfl, spAdd_recipe _ _, hframe⟩

/-- LD HL,SP+e8 (R325). -/
theorem loadHlSpImm_next (n : Byte) :
    ∃ t, loadHlSpImm n s = .next t ∧ SpOffsetRecipe s.regs.sp n (t.pair .hl) t.regs.flags
      ∧ KeepsSp s t ∧ Advances s t 2 12 ∧ RegisterOnly s t [.h, .l] := by
  obtain ⟨hhl, -, hsp, hframe⟩ :=
    pairAndFlags_finish s .hl (spAdd s.regs.sp n).1 (spAdd s.regs.sp n).2 2 12
  exact ⟨_, rfl, hhl.symm ▸ spAdd_recipe s.regs.sp n, hsp (by decide), hframe⟩

end Sys2Proof.Machine
end

section
/-! SUPPORT. The statements of the family 42_alu16.md settled. -/

namespace Sys2Proof.Proofs

open Sys2Proof.Machine

/-- Settles O18: HL and the flags set, for each of the four pairs. -/
theorem addPairToHl : Obligations.AddPairToHl := by
  intro s p
  rw [exec_addHl]
  exact ⟨encode_addHl p, addHlPair_next s p⟩

/-- Settles O19: the pair changes by 1 or by -1, and adding -1 is subtracting 1. -/
theorem incDecPair : Obligations.IncDecPair := by
  intro s p
  rw [exec_incPair, exec_decPair, BitVec.sub_eq_add_neg]
  exact ⟨⟨encode_incPair p, addToPair_next s p 1⟩, ⟨encode_decPair p, addToPair_next s p (-1)⟩⟩

/-- Settles O20: both put the sum of `spAdd_recipe`, in SP or in HL. -/
theorem stackPointerOffset : Obligations.StackPointerOffset := fun s e8 =>
  ⟨⟨rfl, addSpImm_next s e8⟩, ⟨rfl, loadHlSpImm_next s e8⟩⟩

end Sys2Proof.Proofs
end

section
/-! SUPPORT. The function of the rotates and shifts meets the spec's recipe, bit by bit
(43_rotate_bit.md R340). -/

namespace Sys2Proof.Machine

/-- The carry as a byte is that bit at index 0. -/
theorem getLsbD_carryByte (cin : Bool) (i : Nat) :
    (BitVec.ofNat 8 cin.toNat).getLsbD i = (cin && i == 0) := by
  cases cin with
  | false => simp
  | true => cases i <;> simp

/-- The bit shifted out is the model's own; the bits of the result are those of its shifts, at each of
the eight indices. -/
theorem rot_recipe (k : RotOp) (v : Byte) (cin : Bool) :
    RotRecipe k v cin (rot k v cin).1 (rot k v cin).2 := by
  cases k with
  | rlc | rrc | rl | rr | sla | sra | swap | srl =>
    refine ⟨fun i hi => ?_, rfl⟩
    simp only [rot, BitVec.getLsbD_or, BitVec.getLsbD_and, BitVec.getLsbD_shiftLeft,
      BitVec.getLsbD_ushiftRight, getLsbD_carryByte]
    interval_cases i <;> simp

end Sys2Proof.Machine
end

section
/-! SUPPORT. What each shared operation of the rotates, shifts and bits answers and leaves
(43_rotate_bit.md R340 to R366). -/

namespace Sys2Proof.Machine

/-! ### Encodings of the forms -/

theorem encode_rotReg (k : RotOp) (dst : Reg8) :
    encode (Forms.rotReg k dst) = [0xCB, 0#2 ++ (k.code ++ dst.code)] := by
  cases k <;> cases dst <;> rfl
theorem encode_rotHl (k : RotOp) :
    encode (Forms.rotHl k) = [0xCB, 0#2 ++ (k.code ++ 6#3)] := by
  cases k <;> rfl
theorem encode_bitReg (b : BitVec 3) (r : Reg8) :
    encode (Forms.bitReg b r) = [0xCB, 1#2 ++ (b ++ r.code)] := by
  rcases bit3_cases b with rfl | rfl | rfl | rfl | rfl | rfl | rfl | rfl <;> cases r <;> rfl
theorem encode_bitHl (b : BitVec 3) : encode (Forms.bitHl b) = [0xCB, 1#2 ++ (b ++ 6#3)] := by
  rcases bit3_cases b with rfl | rfl | rfl | rfl | rfl | rfl | rfl | rfl <;> rfl
theorem encode_resReg (b : BitVec 3) (r : Reg8) :
    encode (Forms.resReg b r) = [0xCB, 2#2 ++ (b ++ r.code)] := by
  rcases bit3_cases b with rfl | rfl | rfl | rfl | rfl | rfl | rfl | rfl <;> cases r <;> rfl
theorem encode_resHl (b : BitVec 3) : encode (Forms.resHl b) = [0xCB, 2#2 ++ (b ++ 6#3)] := by
  rcases bit3_cases b with rfl | rfl | rfl | rfl | rfl | rfl | rfl | rfl <;> rfl
theorem encode_setReg (b : BitVec 3) (r : Reg8) :
    encode (Forms.setReg b r) = [0xCB, 3#2 ++ (b ++ r.code)] := by
  rcases bit3_cases b with rfl | rfl | rfl | rfl | rfl | rfl | rfl | rfl <;> cases r <;> rfl
theorem encode_setHl (b : BitVec 3) : encode (Forms.setHl b) = [0xCB, 3#2 ++ (b ++ 6#3)] := by
  rcases bit3_cases b with rfl | rfl | rfl | rfl | rfl | rfl | rfl | rfl <;> rfl

variable (s : State)

/-! ### Rotates and shifts -/

/-- The accumulator rotates (R341 to R344). -/
theorem rotAcc_next (k : RotOp) :
    ∃ t, rotAcc k s = .next t ∧ ∃ cout, RotRecipe k s.regs.a s.regs.flags.c t.regs.a cout
      ∧ t.regs.flags = ⟨false, false, false, cout⟩ ∧ KeepsSp s t ∧ Advances s t 1 4
      ∧ RegisterOnly s t [.a] := by
  obtain ⟨-, hframe⟩ :=
    registerAndFlags_finish s .a (rot k s.regs.a s.regs.flags.c).1 (accRotFlags _) 1 4
  exact ⟨_, rfl, _, rot_recipe k _ _, rfl, hframe⟩

/-- The CB rotates and shifts of a register (R345 to R359). -/
theorem rotReg_next (k : RotOp) (dst : Reg8) :
    ∃ t cout, rotReg k dst s = .next t
      ∧ RotRecipe k (s.reg dst) s.regs.flags.c (t.reg dst) cout
      ∧ t.regs.flags = ⟨t.reg dst == 0, false, false, cout⟩ ∧ KeepsSp s t ∧ Advances s t 2 8
      ∧ RegisterOnly s t [dst] := by
  obtain ⟨hreg, hframe⟩ := registerAndFlags_finish s dst (rot k (s.reg dst) s.regs.flags.c).1
    (rotFlags _ (rot k (s.reg dst) s.regs.flags.c).2) 2 8
  exact ⟨_, _, rfl, hreg.symm ▸ rot_recipe k _ _, hreg.symm ▸ rfl, hframe⟩

/-- The CB rotates and shifts of the byte at HL (R346 to R360). -/
theorem rotAtHl_next (k : RotOp) :
    ∃ t res cout, rotAtHl k s = .next t
      ∧ RotRecipe k (memRead s (s.pair .hl)) s.regs.flags.c res cout
      ∧ StoresByte s t (s.pair .hl) res
      ∧ t.regs.flags = ⟨res == 0, false, false, cout⟩ ∧ KeepsRegs s t [] ∧ KeepsSp s t
      ∧ Advances s t 2 16 := by
  obtain ⟨hstore, hframe⟩ :=
    storeAndFlags_finish s s.hl (rot k s.atHl s.regs.flags.c).1 (rotFlags _ _) 2 16
  exact ⟨_, _, _, rfl, rot_recipe k _ _, hstore, rfl, hframe⟩

end Sys2Proof.Machine
end

section
/-! SUPPORT. The statements of the family 43_rotate_bit.md settled. -/

namespace Sys2Proof.Proofs

open Sys2Proof.Machine

/-- Settles O21: the four are one operation of the rotate. -/
theorem rotateAccumulator : Obligations.RotateAccumulator := fun s =>
  ⟨⟨rfl, rotAcc_next s .rlc⟩, ⟨rfl, rotAcc_next s .rrc⟩, ⟨rfl, rotAcc_next s .rl⟩,
    ⟨rfl, rotAcc_next s .rr⟩⟩

/-- Settles O22: one register and the flags, by the recipe of each operation. -/
theorem rotateRegister : Obligations.RotateRegister := by
  intro s k dst
  rw [exec_rotReg]
  exact ⟨encode_rotReg k dst, rotReg_next s k dst⟩

/-- Settles O23: one store and the flags, by the recipe of each operation. -/
theorem rotateMemory : Obligations.RotateMemory := by
  intro s k
  rw [exec_rotHl]
  exact ⟨encode_rotHl k, rotAtHl_next s k⟩

/-- Settles O24: the flags only, by a register's byte or the byte at HL. -/
theorem testBit : Obligations.TestBit := fun s b r =>
  ⟨⟨encode_bitReg b r, _, exec_bitReg s b r, rfl, flagsOnly_finish s _ 2 8⟩,
    ⟨encode_bitHl b, _, exec_bitHl s b, rfl, flagsOnly_finish s _ 2 12⟩⟩

/-- Settles O25: one register set, from its own byte. -/
theorem resetAndSetRegisterBit : Obligations.ResetAndSetRegisterBit := fun s b r =>
  ⟨⟨encode_resReg b r, _, exec_resReg s b r, setsRegister_finish s r _ 2 8⟩,
    ⟨encode_setReg b r, _, exec_setReg s b r, setsRegister_finish s r _ 2 8⟩⟩

/-- Settles O26: one byte stored, with no test of the old bit. -/
theorem resetAndSetMemoryBit : Obligations.ResetAndSetMemoryBit := fun s b =>
  ⟨⟨encode_resHl b, _, exec_resHl s b, storesOnly_finish s (s.pair .hl) _ 2 16⟩,
    ⟨encode_setHl b, _, exec_setHl s b, storesOnly_finish s (s.pair .hl) _ 2 16⟩⟩

end Sys2Proof.Proofs
end

section
/-! SUPPORT. What each shared operation of the control transfers answers and leaves, both ways of
the conditional ones (44_control.md R380 to R391). -/

namespace Sys2Proof.Machine

/-! ### Encodings of the forms -/

theorem encode_jp (cc : Cond) (w : Word) :
    encode (Forms.jp cc w) = [6#3 ++ (cc.code ++ 2#3), lowByte w, highByte w] := by
  cases cc <;> rfl
theorem encode_jr (cc : Cond) (e : Byte) :
    encode (Forms.jr cc e) = [1#3 ++ (cc.code ++ 0#3), e] := by
  cases cc <;> rfl
theorem encode_call (cc : Cond) (w : Word) :
    encode (Forms.call cc w) = [6#3 ++ (cc.code ++ 4#3), lowByte w, highByte w] := by
  cases cc <;> rfl
theorem encode_ret (cc : Cond) : encode (Forms.ret cc) = [6#3 ++ (cc.code ++ 0#3)] := by
  cases cc <;> rfl
theorem encode_rst (v : BitVec 3) : encode (Forms.rst v) = [3#2 ++ (v ++ 7#3)] := by
  rcases bit3_cases v with rfl | rfl | rfl | rfl | rfl | rfl | rfl | rfl <;> rfl

/-! ### The condition -/

/-- A conditional operation answers as its first branch where the condition is met, and as its
second where it is not. -/
theorem conditional_next {cc : Cond} {f : Flags} {x y : Answer State} {P Q : State → Prop}
    (htaken : ∃ t, x = .next t ∧ P t) (hnot : ∃ t, y = .next t ∧ Q t) :
    ∃ t, (if cc.holds f then x else y) = .next t
      ∧ (CondMet cc f → P t) ∧ (¬CondMet cc f → Q t) := by
  by_cases hmet : CondMet cc f
  · obtain ⟨t, hx, hP⟩ := htaken
    exact ⟨t, (if_pos ((condMet_iff cc f).mp hmet)).trans hx, fun _ => hP, absurd hmet⟩
  · obtain ⟨t, hy, hQ⟩ := hnot
    exact ⟨t, (if_neg (hmet ∘ (condMet_iff cc f).mpr)).trans hy, fun h => absurd h hmet,
      fun _ => hQ⟩

variable (s : State)

/-! ### Jumps -/

/-- A taken transfer with no effect of its own. -/
theorem transfer_id_next (n : Nat) (target : Word) :
    ∃ t, transfer n target id s = .next t ∧ Jumps s t target n :=
  ⟨_, rfl, jumps_finish s target n⟩

/-- A transfer not taken: PC goes past the instruction. -/
theorem complete_id_next (len n : Nat) :
    ∃ t, complete len n id s = .next t ∧ Jumps s t (nextPc s len) n :=
  ⟨_, rfl, jumps_finish s (nextPc s len) n⟩

/-- JP cc,a16 (R382). -/
theorem jumpIf_next (cc : Cond) (target : Word) :
    ∃ t, jumpIf cc target s = .next t
      ∧ (CondMet cc s.regs.flags → Jumps s t target 16)
      ∧ (¬CondMet cc s.regs.flags → Jumps s t (nextPc s 3) 12) :=
  conditional_next (transfer_id_next s 16 target) (complete_id_next s 3 12)

/-- JR cc,e8 (R385). -/
theorem jumpRelativeIf_next (cc : Cond) (e : Byte) :
    ∃ t, jumpRelativeIf cc e s = .next t
      ∧ (CondMet cc s.regs.flags → Jumps s t (nextPc s 2 + e.signExtend 16) 12)
      ∧ (¬CondMet cc s.regs.flags → Jumps s t (nextPc s 2) 8) :=
  conditional_next (transfer_id_next s 12 (relativeTarget s e)) (complete_id_next s 2 8)

/-! ### Calls -/

/-- CALL a16 and RST t (R386, R391): the address pushed is that of the following instruction, as it
was before the halt-bug latch is cleared. -/
theorem call_next (len n : Nat) (target : Word) :
    ∃ t, call len n target s = .next t ∧ Calls s t target n (nextPc s len) := by
  refine ⟨_, rfl, ⟨rfl, rfl⟩, pushesWord_finish s _ _ _, fun k _ => ?_, ?_⟩
  · rw [State.reg_finish, State.reg_push16, State.reg_clearHaltBug]
  · simp [KeepsFlags]

/-- CALL cc,a16 (R387). -/
theorem callIf_next (cc : Cond) (target : Word) :
    ∃ t, callIf cc target s = .next t
      ∧ (CondMet cc s.regs.flags → Calls s t target 24 (nextPc s 3))
      ∧ (¬CondMet cc s.regs.flags → Jumps s t (nextPc s 3) 12) :=
  conditional_next (call_next s 3 24 target) (complete_id_next s 3 12)

/-! ### Returns -/

/-- RET (R388). -/
theorem ret_next (n : Nat) : ∃ t, ret n s = .next t ∧ Returns s t n :=
  ⟨_, rfl, ⟨rfl, rfl⟩, rfl, rfl, registerOnly_finish _ _ fun _ _ => rfl⟩

/-- RET cc (R389). -/
theorem retIf_next (cc : Cond) :
    ∃ t, retIf cc s = .next t
      ∧ (CondMet cc s.regs.flags → Returns s t 20)
      ∧ (¬CondMet cc s.regs.flags → Jumps s t (nextPc s 1) 8) :=
  conditional_next (ret_next s 20) (complete_id_next s 1 8)

/-- RETI (R390): a return that also sets IME, with no delay left standing. -/
theorem retEnable_next :
    ∃ t, retEnable s = .next t
      ∧ GoesTo t (wordOf (memRead s (s.regs.sp + 1)) (memRead s s.regs.sp)) 16
      ∧ t.regs.sp = s.regs.sp + 2 ∧ KeepsRegs s t [] ∧ KeepsFlags s t ∧ KeepsMemory s t
      ∧ SameButRegs
          { s with
            latch := { s.latch with ime := true, imePending := false, haltBug := false } } t :=
  ⟨_, rfl, ⟨rfl, rfl⟩, rfl, fun _ _ => rfl, rfl, fun _ => rfl, rfl⟩

end Sys2Proof.Machine
end

section
/-! SUPPORT. The statements of the family 44_control.md settled. -/

namespace Sys2Proof.Proofs

open Sys2Proof.Machine

/-- Settles O27: PC only, to a target that each form computes from the state before it. -/
theorem jumpInstructions : Obligations.JumpInstructions := by
  intro s cc a16 e8
  rw [exec_jp, exec_jr]
  exact ⟨⟨rfl, transfer_id_next s 16 a16⟩, ⟨encode_jp cc a16, jumpIf_next s cc a16⟩,
    ⟨rfl, transfer_id_next s 4 (s.pair .hl)⟩,
    ⟨rfl, transfer_id_next s 12 (relativeTarget s e8)⟩,
    encode_jr cc e8, jumpRelativeIf_next s cc e8⟩

/-- Settles O28: a push and a jump; RST t is the call to 8 t of one byte. -/
theorem callInstructions : Obligations.CallInstructions := by
  intro s cc a16 v
  rw [exec_call, exec_rst]
  exact ⟨⟨rfl, call_next s 3 24 a16⟩, ⟨encode_call cc a16, callIf_next s cc a16⟩,
    encode_rst v, call_next s 1 16 _⟩

/-- Settles O29: the word at SP goes to PC, and RETI sets IME beside it. -/
theorem returnInstructions : Obligations.ReturnInstructions := by
  intro s cc
  rw [exec_ret]
  exact ⟨⟨rfl, ret_next s 16⟩, ⟨encode_ret cc, retIf_next s cc⟩, rfl, retEnable_next s⟩

end Sys2Proof.Proofs
end

section
/-! SUPPORT. What the system instructions answer and leave: the latches, the speed switch, the
eleven undefined opcodes, and PREFIX CB with its second byte (45_system.md R400 to R407). -/

namespace Sys2Proof.Machine

/-! ### PREFIX CB -/

/-- The CB map stands for the fields of the second byte (30_encoding.md R182, R188). -/
theorem exec_cbInstr (cbop : Byte) (s : State) : exec (cbInstr cbop) s = cbOperation cbop s := by
  obtain ⟨n, hn, rfl⟩ := Laws.exists_lt_eq_ofNat cbop
  interval_cases n <;> rfl

/-- Every CB operation completes, of each kind, on a register or on the byte at HL. -/
theorem cbOperation_next (cbop : Byte) (s : State) : ∃ t, cbOperation cbop s = .next t := by
  unfold cbOperation
  generalize (cbop.extractLsb' 6 2).toNat = kind
  cases fieldReg (cbop.extractLsb' 0 3).toNat <;>
    match kind with
    | 0 | 1 | 2 | _ + 3 => exact ⟨_, rfl⟩

/-! ### Latches -/

/-- Replacing latches other than the speed, and completing: no read sees it. -/
theorem setsLatches_finish {s u : State} {l : Latches} (hu : u = { s with latch := l })
    (hspeed : l.ds = s.latch.ds) (len n : Nat) :
    SetsLatches s (finish u (nextPc s len) n) l len n := by
  subst hu
  refine ⟨⟨rfl, rfl⟩, fun k _ => ?_, rfl, rfl, fun b => ?_, rfl⟩
  · rw [State.reg_finish]
    rfl
  · rw [memRead_finish]
    exact memRead_congr b rfl rfl rfl rfl rfl rfl rfl rfl rfl rfl hspeed rfl rfl

/-- The condition on which HALT halts (R402). -/
theorem ime_or_not_hasPending_iff {s : State} :
    (s.latch.ime || !hasPending s) = true ↔ s.latch.ime = true ∨ pendingSet s = 0 := by
  rw [Bool.or_eq_true, Bool.not_eq_true', hasPending_eq_false_iff]

/-- HALT with IME set or nothing pending (R402). -/
theorem waitForInterrupt_of_halt {s : State} (h : s.latch.ime = true ∨ pendingSet s = 0) :
    waitForInterrupt s.clearHaltBug =
      { s with latch := { s.latch with halted := true, haltBug := false } } :=
  if_pos (ime_or_not_hasPending_iff.mpr h)

/-- HALT with IME clear and an interrupt pending (R402); the fetch left the halt-bug latch clear. -/
theorem waitForInterrupt_of_haltBug {s : State} (h : ¬(s.latch.ime = true ∨ pendingSet s = 0)) :
    waitForInterrupt s.clearHaltBug =
      { s with latch := { s.latch with haltBug := s.params.haltBug } } := by
  refine (if_neg (h ∘ ime_or_not_hasPending_iff.mp)).trans ?_
  cases hbug : s.params.haltBug with
  | true => exact if_pos hbug
  | false => exact if_neg (ne_true_of_eq_false hbug)

/-- The instruction after EI, where it leaves ime_pending set, ends with IME set (R405,
30_encoding.md R193). -/
theorem fetchAndExecute_of_promotion {t u : State} {i : Instr} {rest : List Byte}
    (hdec : decode (fetchBytes t) = .ok (i, rest)) (hexec : exec i t = .next u)
    (hbefore : t.latch.imePending = true) (hafter : u.latch.imePending = true) :
    fetchAndExecute t =
      .next { u with latch := { u.latch with ime := true, imePending := false } } := by
  rw [fetchAndExecute_of_next hdec hexec, promoteIme_eq, if_pos ⟨hbefore, hafter⟩]

/-! ### The speed switch -/

/-- Only a read of KEY1 sees the latches or KEY1 (20_memory.md R138). -/
theorem memRead_withLatchAndKey1 (s : State) (l : Latches) (k : Byte) {b : Word} (h : b ≠ 0xFF4D) :
    memRead { s with latch := l, key1 := k } b = memRead s b := by
  by_cases hio : regionOf b.toNat = .io
  · rw [memRead_io _ hio, memRead_io _ hio, readIo, readIo]
    cases hr : ioRegOf (b.toNat % 0x100)
    case key1 => exact absurd (BitVec.eq_of_toNat_eq (ioAddress_of_named hio hr rfl)) h
    all_goals rfl
  · exact memRead_congr_of_not_io hio rfl rfl rfl rfl rfl rfl

/-- STOP on CGB with KEY1 armed (R404). -/
theorem stopOrSwitch_of_armed {s : State} (hcgb : s.params.bootProfile = .cgb)
    (harmed : s.key1.getLsbD 0 = true) : stopOrSwitch s = complete 2 4 switchSpeed s :=
  if_pos ⟨hcgb, harmed⟩

/-! ### The undefined opcodes -/

theorem encode_of_mem_undefinedOpcodes :
    ∀ p ∈ Forms.undefinedOpcodes, encode p.1 = [p.2] := by decide

theorem exec_of_mem_undefinedOpcodes (s : State) :
    ∀ p ∈ Forms.undefinedOpcodes, exec p.1 s = raiseFatal p.2 s := by
  simp only [Forms.undefinedOpcodes, List.forall_mem_cons]
  exact ⟨rfl, rfl, rfl, rfl, rfl, rfl, rfl, rfl, rfl, rfl, rfl, nofun⟩

end Sys2Proof.Machine
end

section
/-! SUPPORT. The statements of the family 45_system.md settled. -/

namespace Sys2Proof.Proofs

open Sys2Proof.Machine

/-- Settles O34: the prefix row and the CB row are one operation of the second byte's fields, which
completes. -/
theorem prefixCb : Obligations.PrefixCb := by
  intro cbop next s
  obtain ⟨t, ht⟩ := cbOperation_next cbop s
  exact ⟨rfl, t, ht, (exec_cbInstr cbop s).trans ht⟩

/-- Settles O30: each sets latches only, and EI leaves ime_pending for the next instruction to
promote. -/
theorem nopDiEi : Obligations.NopDiEi := by
  intro s
  refine ⟨⟨rfl, _, rfl, ?_⟩, ⟨rfl, _, exec_di s, ?_⟩, rfl, _, exec_ei s, ?_, ?_⟩
  · apply setsLatches_finish <;> rfl
  · apply setsLatches_finish <;> rfl
  · apply setsLatches_finish <;> rfl
  · intro i rest u hdec hexec hafter
    exact ⟨_, fetchAndExecute_of_promotion hdec hexec rfl hafter, rfl, rfl⟩

/-- Settles O31: by the two branches of `waitForInterrupt`. -/
theorem haltInstruction : Obligations.HaltInstruction := by
  intro s pend
  refine ⟨rfl, _, rfl, fun h => ?_, fun h => ?_⟩
  · exact setsLatches_finish (waitForInterrupt_of_halt h) rfl 1 4
  · exact setsLatches_finish (waitForInterrupt_of_haltBug h) rfl 1 4

/-- Settles O32: armed on CGB it completes with the speed switched, and refuses otherwise. -/
theorem stopInstruction : Obligations.StopInstruction := by
  intro s ignored
  refine ⟨rfl, fun hcgb harmed => ?_, fun h => if_neg h⟩
  exact ⟨_, stopOrSwitch_of_armed hcgb harmed, rfl, rfl, fun k _ => State.reg_finish _ _ _ k, rfl,
    rfl, fun _ hb => memRead_withLatchAndKey1 s _ _ hb, ⟨rfl, rfl⟩, rfl⟩

/-- Settles O33: opcode by opcode, and by the stop of a faulted machine (`machineStep`). -/
theorem undefinedOpcodesFault : Obligations.UndefinedOpcodesFault := by
  refine ⟨rfl, fun p hp s => ?_⟩
  obtain ⟨hstopped, -⟩ := machineStep { s with fault := some (.undefinedOpcode p.2) }
  exact ⟨encode_of_mem_undefinedOpcodes p hp, exec_of_mem_undefinedOpcodes s p hp,
    hstopped _ rfl⟩

/-- Settles O42: the three ways of the CPU step, on a halted machine. -/
theorem haltedState : Obligations.HaltedState := by
  intro s hhalted pend
  refine ⟨fun hime hpend => ⟨cpuStep_of_dispatch hime hpend, by simp⟩, fun hime hpend => ?_,
    fun hpend => cpuStep_of_halted hhalted hpend⟩
  have hdispatch : ¬(s.latch.ime = true ∧ pendingSet s ≠ 0) := by simp [hime]
  exact cpuStep_of_running hdispatch fun ⟨_, hnone⟩ => hpend hnone

end Sys2Proof.Proofs
end

section
/-! SUPPORT. Which source is taken, and what taking it leaves (60_exceptions.md R421 to R425). -/

namespace Sys2Proof.Machine

/-- The source taken is the lowest bit set (R423). -/
theorem lowestBit_eq {p : Byte} {k : Nat} (hk : k < 5) (hset : p.getLsbD k = true)
    (hlow : ∀ j, j < k → p.getLsbD j = false) : lowestBit p = k := by
  unfold lowestBit
  interval_cases k
  · rw [if_pos hset]
  · rw [hlow 0 (by decide), hset]; rfl
  · rw [hlow 0 (by decide), hlow 1 (by decide), hset]; rfl
  · rw [hlow 0 (by decide), hlow 1 (by decide), hlow 2 (by decide), hset]; rfl
  · rw [hlow 0 (by decide), hlow 1 (by decide), hlow 2 (by decide), hlow 3 (by decide)]; rfl

theorem ne_zero_of_getLsbD {p : Byte} {k : Nat} (h : p.getLsbD k = true) : p ≠ 0 := by
  rintro rfl
  simp at h

/-- Only a read of IF sees a request cleared. -/
theorem memRead_clearRequest (s : State) (k : Nat) {b : Word} (h : b ≠ 0xFF0F) :
    memRead (clearRequest s k) b = memRead s b := by
  rw [clearRequest_eq_memWrite]
  refine Proofs.writeLeavesOthers s _ b _ ?_
  have hb : b.toNat ≠ 0xFF0F := fun e => h (BitVec.eq_of_toNat_eq e)
  simpa [writeReaches, regionOf, ioRegOf] using hb

end Sys2Proof.Machine
end

section
/-! SUPPORT. The mode machine as a run of modes: a step that does not reach the end of the mode only
counts, one that does goes on from the end of the mode, and so steps can be put together
(60_exceptions.md R460, R461). -/

namespace Sys2Proof.Machine

/-- Set the cycles since the mode began. -/
def State.withDot (d : Nat) (s : State) : State := { s with ppu := { s.ppu with dot := d } }

@[simp] theorem State.withDot_ppu (s : State) (d : Nat) :
    (s.withDot d).ppu = { s.ppu with dot := d } := rfl

theorem State.withDot_of_dot_eq {s : State} {d : Nat} (h : s.ppu.dot = d) : s.withDot d = s := by
  subst h
  rfl

/-! ### The end of a mode -/

theorem add_one_eq_144_iff {v : Byte} : v + 1 = 144 ↔ v = 143 := by
  constructor <;> intro h <;> bv_omega

section
variable {s : State}
theorem endMode_of_oamScan (h : s.ppu.mode = .oamScan) : endMode s = enterMode .vramAccess s := by
  simp only [endMode, h]
theorem endMode_of_vramAccess (h : s.ppu.mode = .vramAccess) :
    endMode s = enterMode .hblank (renderLine s s.ppu.ly.toNat) := by simp only [endMode, h]
theorem endMode_of_hblank (h : s.ppu.mode = .hblank) :
    endMode s = enterMode (if s.ppu.ly = 143 then .vblank else .oamScan)
      (setLy (s.ppu.ly + 1) s) := by
  simp only [endMode, h, setLy_ppu, add_one_eq_144_iff]
  split <;> rfl
theorem endMode_of_vblank (h : s.ppu.mode = .vblank) :
    endMode s = if s.ppu.ly.toNat < 153 then setLy (s.ppu.ly + 1) s
      else enterMode .oamScan (setLy 0 (newFrame s)) := by simp only [endMode, h]
end

@[simp] theorem endMode_lcd (s : State) : (endMode s).lcd = s.lcd := by rw [endMode_ppuOnly s]
@[simp] theorem endMode_latch (s : State) : (endMode s).latch = s.latch := by rw [endMode_ppuOnly s]

theorem lcdOn_endMode (s : State) : lcdOn (endMode s) = lcdOn s := by rw [lcdOn, lcdOn, endMode_lcd]
theorem speed_endMode (s : State) : speed (endMode s) = speed s := by
  rw [speed, speed, endMode_latch]

/-! ### No action looks at the cycles since the mode began -/

theorem requestStat_withDot (s : State) (en d : Nat) :
    requestStat (s.withDot d) en = (requestStat s en).withDot d := by
  rw [requestStat, requestStat, apply_ite (State.withDot d)]
  rfl

theorem enterMode_withDot (m : PpuMode) (s : State) (d : Nat) :
    enterMode m (s.withDot d) = (enterMode m s).withDot d := by
  cases m with
  | vramAccess => rfl
  | oamScan | hblank | vblank => simp only [enterMode, ← requestStat_withDot]; rfl

theorem setLy_withDot (v : Byte) (s : State) (d : Nat) :
    setLy v (s.withDot d) = (setLy v s).withDot d := by
  simp only [setLy, apply_ite (State.withDot d), ← requestStat_withDot]
  rfl

theorem endMode_withDot (s : State) (d : Nat) : endMode (s.withDot d) = (endMode s).withDot d := by
  cases hm : s.ppu.mode with
  | oamScan =>
    rw [endMode_of_oamScan hm, endMode_of_oamScan (s := s.withDot d) hm, enterMode_withDot]
  | vramAccess =>
    rw [endMode_of_vramAccess hm, endMode_of_vramAccess (s := s.withDot d) hm, ← enterMode_withDot]
    rfl
  | hblank =>
    rw [endMode_of_hblank hm, endMode_of_hblank (s := s.withDot d) hm, ← enterMode_withDot,
      ← setLy_withDot]
    rfl
  | vblank =>
    rw [endMode_of_vblank hm, endMode_of_vblank (s := s.withDot d) hm, apply_ite (State.withDot d),
      ← enterMode_withDot, ← setLy_withDot, ← setLy_withDot]
    rfl

/-! ### The loop -/

/-- A pass for each 80 cycles of `dot` is enough: more passes change nothing (log entry 21). -/
theorem ppuLoop_eq_of_enough {fuel fuel' : Nat} {s : State} (h : s.ppu.dot < 80 * fuel)
    (h' : s.ppu.dot < 80 * fuel') : ppuLoop fuel s = ppuLoop fuel' s := by
  induction fuel generalizing s fuel' with
  | zero => omega
  | succ fuel ih =>
    cases fuel' with
    | zero => omega
    | succ fuel' =>
      rw [ppuLoop, ppuLoop]
      split
      case isFalse => rfl
      case isTrue hle =>
        have hw := modeWidth_ge s
        have hdot : s.ppu.dot - modeWidth s < 80 * fuel ∧ s.ppu.dot - modeWidth s < 80 * fuel' := by
          omega
        exact ih (by rw [endMode_dot]; exact hdot.1) (by rw [endMode_dot]; exact hdot.2)

theorem ppuStep_of_off {s : State} (n : Nat) (h : lcdOn s = false) : ppuStep n s = s :=
  if_neg (by simp [h])

/-- Only the sum of `dot` and the step's cycles counts. -/
theorem ppuStep_withDot {s : State} (m n : Nat) (hon : lcdOn s = true) :
    ppuStep n (s.withDot (s.ppu.dot + m)) = ppuStep (m + n) s := by
  have hon' : lcdOn (s.withDot (s.ppu.dot + m)) = true := hon
  rw [ppuStep, ppuStep, if_pos hon, if_pos hon', State.withDot_ppu, Nat.add_assoc]
  rfl

/-- A step that does not reach the end of the mode only counts. -/
theorem ppuStep_of_lt {s : State} {n : Nat} (hon : lcdOn s = true)
    (h : s.ppu.dot + n < modeWidth s) : ppuStep n s = s.withDot (s.ppu.dot + n) := by
  rw [ppuStep, if_pos hon, ppuLoop]
  exact if_neg (Nat.not_le.mpr h)

/-- A step that reaches the end of the mode ends it, and goes on with what remains. -/
theorem ppuStep_of_le {s : State} {n : Nat} (hon : lcdOn s = true)
    (h : modeWidth s ≤ s.ppu.dot + n) :
    ppuStep n s = ppuStep (s.ppu.dot + n - modeWidth s) ((endMode s).withDot 0) := by
  have hon' : lcdOn ((endMode s).withDot 0) = true := (lcdOn_endMode s).trans hon
  have hw := modeWidth_ge s
  rw [ppuStep, ppuStep, if_pos hon, if_pos hon', ppuLoop]
  refine (if_pos h).trans ?_
  simp only [State.withDot_ppu, Nat.zero_add]
  have e : endMode (s.withDot (s.ppu.dot + n - modeWidth s))
      = ((endMode s).withDot 0).withDot (s.ppu.dot + n - modeWidth s) := endMode_withDot s _
  refine (congrArg (ppuLoop _) e).trans (ppuLoop_eq_of_enough ?_ ?_)
  all_goals
    simp only [State.withDot_ppu]
    omega

/-- Two updates of the PPU are one, by induction on the cycles the first has before it
(60_exceptions.md R461). -/
theorem ppuStep_ppuStep (s : State) (m n : Nat) :
    ppuStep n (ppuStep m s) = ppuStep (m + n) s := by
  cases hon : lcdOn s with
  | false => rw [ppuStep_of_off m hon, ppuStep_of_off n hon, ppuStep_of_off _ hon]
  | true =>
    induction hd : s.ppu.dot + m using Nat.strong_induction_on generalizing s m with
    | _ d ih =>
      by_cases hend : modeWidth s ≤ s.ppu.dot + m
      case neg =>
        rw [ppuStep_of_lt hon (by omega), ppuStep_withDot _ _ hon]
      case pos =>
        have hw := modeWidth_ge s
        rw [ppuStep_of_le hon hend, ppuStep_of_le hon (n := m + n) (by omega),
          ih (s.ppu.dot + m - modeWidth s) (by omega) ((endMode s).withDot 0) _
            ((lcdOn_endMode s).trans hon) (Nat.zero_add _)]
        congr 1
        omega

/-! ### From the start of a mode -/

/-- Before the end of a mode just begun, the PPU only counts. -/
theorem ppuStep_of_lt_width {s : State} {n : Nat} (hon : lcdOn s = true) (hdot : s.ppu.dot = 0)
    (h : n < modeWidth s) : ppuStep n s = s.withDot n := by
  rw [ppuStep_of_lt hon (by omega), hdot, Nat.zero_add]

/-- From the end of a mode just begun, the PPU is in the next mode for what remains. -/
theorem ppuStep_of_width_le {s : State} {n : Nat} (hon : lcdOn s = true) (hdot : s.ppu.dot = 0)
    (h : modeWidth s ≤ n) : ppuStep n s = ppuStep (n - modeWidth s) (endMode s) := by
  rw [ppuStep_of_le hon (by omega), hdot, Nat.zero_add,
    State.withDot_of_dot_eq ((endMode_dot s).trans hdot)]

end Sys2Proof.Machine
end

section
/-! SUPPORT. The lines: what the end of each mode requests and sets, and where the PPU is after so
many cycles of a line (60_exceptions.md R460 to R467). -/

namespace Sys2Proof.Machine

/-! ### Requests -/

/-- The STAT source, where enabled. -/
def statWhere (enabled : Bool) : Byte := if enabled then statBit else 0x00

@[simp] theorem requestStat_irq (s : State) (en : Nat) :
    (requestStat s en).irq =
      { s.irq with ifr := s.irq.ifr ||| statWhere (s.lcd.statEn.getLsbD (en - 3)) } := by
  rw [requestStat, statWhere]
  split
  · rfl
  · simp

/-- Entering HBlank requests STAT where STAT bit 3 is set (R465). -/
theorem enterMode_hblank_irq (s : State) :
    (enterMode .hblank s).irq =
      { s.irq with ifr := s.irq.ifr ||| statWhere (s.lcd.statEn.getLsbD 0) } :=
  requestStat_irq _ _

/-- Entering VBlank requests VBlank, and STAT where STAT bit 4 is set (R464, R465). -/
theorem enterMode_vblank_irq (s : State) :
    (enterMode .vblank s).irq =
      { s.irq with ifr := s.irq.ifr ||| (0x01 ||| statWhere (s.lcd.statEn.getLsbD 1)) } := by
  rw [← BitVec.or_assoc]
  exact requestStat_irq _ _

/-- Entering OAMScan requests STAT where STAT bit 5 is set (R465). -/
theorem enterMode_oamScan_irq (s : State) :
    (enterMode .oamScan s).irq =
      { s.irq with ifr := s.irq.ifr ||| statWhere (s.lcd.statEn.getLsbD 2) } :=
  requestStat_irq _ _

/-- A new line requests STAT where it equals LYC and STAT bit 6 is set (R466). -/
theorem setLy_irq (v : Byte) (s : State) :
    (setLy v s).irq =
      { s.irq with
        ifr := s.irq.ifr ||| statWhere (v == s.lcd.lyc && s.lcd.statEn.getLsbD 3) } := by
  rw [setLy]
  split
  case isTrue h => rw [h, Bool.true_and]; exact requestStat_irq _ _
  case isFalse h => simp [h, statWhere]

/-! ### The window's trigger -/

/-- Entering OAMScan latches WY equal to LY (R462). -/
theorem enterMode_oamScan_wyTrig (s : State) :
    (enterMode .oamScan s).ppu.wyTrig = (s.ppu.wyTrig || s.lcd.wy == s.ppu.ly) := by
  simp [enterMode]

theorem enterMode_vblank_wyTrig (s : State) :
    (enterMode .vblank s).ppu.wyTrig = s.ppu.wyTrig := by simp [enterMode]

theorem enterMode_hblank_wyTrig (s : State) :
    (enterMode .hblank s).ppu.wyTrig = s.ppu.wyTrig := by simp [enterMode]

@[simp] theorem enterMode_coinc (m : PpuMode) (s : State) :
    (enterMode m s).ppu.coinc = s.ppu.coinc := by
  obtain ⟨w, hw⟩ := enterMode_ppu m s
  rw [hw]

@[simp] theorem enterMode_winLine (m : PpuMode) (s : State) :
    (enterMode m s).ppu.winLine = s.ppu.winLine := by
  obtain ⟨w, hw⟩ := enterMode_ppu m s
  rw [hw]

@[simp] theorem setLy_lcd (v : Byte) (s : State) : (setLy v s).lcd = s.lcd := by
  rw [setLy_ppuOnly v s]

/-! ### A visible line -/

section
variable {s : State}

theorem endMode_ppu_of_oamScan (h : s.ppu.mode = .oamScan) :
    (endMode s).ppu = { s.ppu with mode := .vramAccess } := by rw [endMode_of_oamScan h]; rfl

theorem endMode_irq_of_oamScan (h : s.ppu.mode = .oamScan) : (endMode s).irq = s.irq := by
  rw [endMode_of_oamScan h]; rfl

theorem endMode_mode_of_vramAccess (h : s.ppu.mode = .vramAccess) :
    (endMode s).ppu.mode = .hblank := by rw [endMode_of_vramAccess h, enterMode_mode]

/-- The line drawn before HBlank leaves the line's number. -/
theorem endMode_ly_of_vramAccess (h : s.ppu.mode = .vramAccess) :
    (endMode s).ppu.ly = s.ppu.ly := by rw [endMode_of_vramAccess h, enterMode_ly]; rfl

theorem endMode_wyTrig_of_vramAccess (h : s.ppu.mode = .vramAccess) :
    (endMode s).ppu.wyTrig = s.ppu.wyTrig := by
  rw [endMode_of_vramAccess h, enterMode_hblank_wyTrig]; rfl

theorem endMode_irq_of_vramAccess (h : s.ppu.mode = .vramAccess) :
    (endMode s).irq =
      { s.irq with ifr := s.irq.ifr ||| statWhere (s.lcd.statEn.getLsbD 0) } := by
  rw [endMode_of_vramAccess h, enterMode_hblank_irq]
  rfl

/-- The line after a visible one (R461, R463). -/
theorem endMode_ppu_of_hblank (h : s.ppu.mode = .hblank) :
    (endMode s).ppu.ly = s.ppu.ly + 1
      ∧ (endMode s).ppu.mode = (if s.ppu.ly = 143 then .vblank else .oamScan)
      ∧ (endMode s).ppu.coinc = (s.ppu.ly + 1 == s.lcd.lyc)
      ∧ (endMode s).ppu.wyTrig
          = (s.ppu.wyTrig || (decide (s.ppu.ly ≠ 143) && s.lcd.wy == s.ppu.ly + 1)) := by
  rw [endMode_of_hblank h]
  refine ⟨by simp, by simp, by simp, ?_⟩
  split
  case isTrue h143 => simp [enterMode_vblank_wyTrig, h143]
  case isFalse h143 =>
    rw [enterMode_oamScan_wyTrig, setLy_ppu, setLy_lcd, decide_eq_true h143, Bool.true_and]

theorem endMode_irq_of_hblank (h : s.ppu.mode = .hblank) :
    (endMode s).irq =
      { s.irq with
        ifr :=
          s.irq.ifr ||| statWhere (s.ppu.ly + 1 == s.lcd.lyc && s.lcd.statEn.getLsbD 3)
            ||| (if s.ppu.ly = 143 then 0x01 ||| statWhere (s.lcd.statEn.getLsbD 1)
              else statWhere (s.lcd.statEn.getLsbD 2)) } := by
  rw [endMode_of_hblank h]
  split
  · rw [enterMode_vblank_irq, setLy_irq, setLy_lcd]
  · rw [enterMode_oamScan_irq, setLy_irq, setLy_lcd]

end

/-- The LCD is on, and OAMScan has just begun. -/
structure LineStart (s : State) : Prop where
  on : lcdOn s = true
  mode : s.ppu.mode = .oamScan
  dot : s.ppu.dot = 0

namespace LineStart
variable {s : State} (h : LineStart s)
include h

/-! The three modes of the line (R460, R461): `s`, `endMode s` and `endMode (endMode s)`. -/

theorem vramAccess_on : lcdOn (endMode s) = true := (lcdOn_endMode s).trans h.on
theorem hblank_on : lcdOn (endMode (endMode s)) = true := (lcdOn_endMode _).trans h.vramAccess_on

theorem vramAccess_dot : (endMode s).ppu.dot = 0 := (endMode_dot s).trans h.dot
theorem hblank_dot : (endMode (endMode s)).ppu.dot = 0 := (endMode_dot _).trans h.vramAccess_dot

theorem vramAccess_mode : (endMode s).ppu.mode = .vramAccess := by
  rw [endMode_ppu_of_oamScan h.mode]
theorem hblank_mode : (endMode (endMode s)).ppu.mode = .hblank :=
  endMode_mode_of_vramAccess h.vramAccess_mode

theorem vramAccess_ly : (endMode s).ppu.ly = s.ppu.ly := by rw [endMode_ppu_of_oamScan h.mode]
theorem hblank_ly : (endMode (endMode s)).ppu.ly = s.ppu.ly :=
  (endMode_ly_of_vramAccess h.vramAccess_mode).trans h.vramAccess_ly

theorem hblank_wyTrig : (endMode (endMode s)).ppu.wyTrig = s.ppu.wyTrig := by
  rw [endMode_wyTrig_of_vramAccess h.vramAccess_mode, endMode_ppu_of_oamScan h.mode]

theorem hblank_irq :
    (endMode (endMode s)).irq =
      { s.irq with ifr := s.irq.ifr ||| statWhere (s.lcd.statEn.getLsbD 0) } := by
  rw [endMode_irq_of_vramAccess h.vramAccess_mode, endMode_irq_of_oamScan h.mode, endMode_lcd]

theorem oamScan_width : modeWidth s = 80 * speed s := by rw [modeWidth, h.mode]; rfl
theorem vramAccess_width : modeWidth (endMode s) = 172 * speed s := by
  rw [modeWidth, h.vramAccess_mode, speed_endMode]; rfl
theorem hblank_width : modeWidth (endMode (endMode s)) = 204 * speed s := by
  rw [modeWidth, h.hblank_mode, speed_endMode, speed_endMode]; rfl

/-- OAMScan lasts 80 cycles times the speed. -/
theorem ppuStep_in_oamScan {n : Nat} (hn : n < 80 * speed s) : ppuStep n s = s.withDot n :=
  ppuStep_of_lt_width h.on h.dot (by rwa [h.oamScan_width])

/-- Then VRAMAccess lasts 172 cycles times the speed. -/
theorem ppuStep_in_vramAccess {n : Nat} (hle : 80 * speed s ≤ n) (hlt : n < 252 * speed s) :
    ppuStep n s = (endMode s).withDot (n - 80 * speed s) := by
  rw [ppuStep_of_width_le h.on h.dot (by rwa [h.oamScan_width]), h.oamScan_width,
    ppuStep_of_lt_width h.vramAccess_on h.vramAccess_dot (by rw [h.vramAccess_width]; omega)]

/-- From the end of VRAMAccess on, only the cycles since then count. -/
theorem ppuStep_after_vramAccess {n : Nat} (hle : 252 * speed s ≤ n) :
    ppuStep n s = ppuStep (n - 252 * speed s) (endMode (endMode s)) := by
  rw [ppuStep_of_width_le h.on h.dot (by rw [h.oamScan_width]; omega), h.oamScan_width,
    ppuStep_of_width_le h.vramAccess_on h.vramAccess_dot (by rw [h.vramAccess_width]; omega),
    h.vramAccess_width]
  congr 1
  omega

/-- Then HBlank lasts 204 cycles times the speed. -/
theorem ppuStep_in_hblank {n : Nat} (hle : 252 * speed s ≤ n) (hlt : n < 456 * speed s) :
    ppuStep n s = (endMode (endMode s)).withDot (n - 252 * speed s) := by
  rw [h.ppuStep_after_vramAccess hle,
    ppuStep_of_lt_width h.hblank_on h.hblank_dot (by rw [h.hblank_width]; omega)]

end LineStart

/-- The end of a mode just begun. -/
theorem ppuStep_modeWidth {s : State} (hon : lcdOn s = true) (hdot : s.ppu.dot = 0) :
    ppuStep (modeWidth s) s = endMode s := by
  have hdot' : (endMode s).ppu.dot = 0 := (endMode_dot s).trans hdot
  have hw := modeWidth_ge (endMode s)
  rw [ppuStep_of_width_le hon hdot (Nat.le_refl _), Nat.sub_self,
    ppuStep_of_lt_width ((lcdOn_endMode s).trans hon) hdot' (by omega),
    State.withDot_of_dot_eq hdot']

/-- A visible line ends after 456 cycles times the speed. -/
theorem LineStart.ppuStep_line {s : State} (h : LineStart s) :
    ppuStep (456 * speed s) s = endMode (endMode (endMode s)) := by
  have e : 456 * speed s - 252 * speed s = modeWidth (endMode (endMode s)) := by
    rw [h.hblank_width]; omega
  rw [h.ppuStep_after_vramAccess (by omega), e, ppuStep_modeWidth h.hblank_on h.hblank_dot]

/-! ### A line of VBlank -/

section
variable {s : State} (h : s.ppu.mode = .vblank)
include h

theorem modeWidth_of_vblank : modeWidth s = 456 * speed s := by rw [modeWidth, h]; rfl

/-- Before line 153 the next line of VBlank begins (R461). -/
theorem endMode_of_vblank_lt (hly : s.ppu.ly.toNat < 153) : endMode s = setLy (s.ppu.ly + 1) s := by
  rw [endMode_of_vblank h, if_pos hly]

/-- After line 153 a new frame begins (R461, R467). -/
theorem endMode_of_vblank_last (hly : 153 ≤ s.ppu.ly.toNat) :
    endMode s = enterMode .oamScan (setLy 0 (newFrame s)) := by
  rw [endMode_of_vblank h, if_neg (Nat.not_lt.mpr hly)]

end

/-! ### Switching the LCD on -/

theorem writeLcdc_of_on {s : State} {v : Byte} (hs : s.lcd.lcdc.getLsbD 7 = false)
    (hv : v.getLsbD 7 = true) :
    writeLcdc s v =
      { s with
        lcd := { s.lcd with lcdc := v }, ppu := s.ppu.switchOn s.lcd.lyc s.lcd.wy } := by
  simp only [writeLcdc, hs, hv]

theorem writeLcdc_of_off {s : State} {v : Byte} (hs : s.lcd.lcdc.getLsbD 7 = true)
    (hv : v.getLsbD 7 = false) :
    writeLcdc s v = { s with lcd := { s.lcd with lcdc := v }, ppu := s.ppu.switchOff } := by
  simp only [writeLcdc, hs, hv]

theorem writeLcdc_of_same {s : State} {v : Byte} (h : s.lcd.lcdc.getLsbD 7 = v.getLsbD 7) :
    writeLcdc s v = { s with lcd := { s.lcd with lcdc := v } } := by
  cases hv : v.getLsbD 7 <;> simp only [writeLcdc, h, hv]

end Sys2Proof.Machine
end

section
/-! SUPPORT. DIV, TIMA and the frame counter for a step of so many cycles, and steps put together
(60_exceptions.md R450 to R452, R506). -/

namespace Sys2Proof.Machine

/-! ### Whole periods and the remainder -/

/-- Whole periods counted in two parts are those counted at once. -/
theorem div_add_mod_add_div (a n p : Nat) : a / p + (a % p + n) / p = (a + n) / p := by
  obtain rfl | hp := Nat.eq_zero_or_pos p
  · simp
  · calc a / p + (a % p + n) / p
      _ = (a % p + n + p * (a / p)) / p := by rw [Nat.add_mul_div_left _ _ hp, Nat.add_comm]
      _ = (a + n) / p := by rw [Nat.add_right_comm, Nat.mod_add_div]

/-! ### DIV -/

/-- Two updates of DIV are one, whatever the period (R450). -/
theorem divStep_divStep (s : State) (m n : Nat) : divStep n (divStep m s) = divStep (m + n) s := by
  have hmod := Nat.mod_add_mod (s.timer.divAcc + m) (divPeriod s) n
  have hdiv := div_add_mod_add_div (s.timer.divAcc + m) n (divPeriod s)
  rw [Nat.add_assoc] at hmod hdiv
  calc divStep n (divStep m s)
    _ = { s with
          timer :=
            { s.timer with
              divAcc := ((s.timer.divAcc + m) % divPeriod s + n) % divPeriod s
              div := s.timer.div + BitVec.ofNat 8 ((s.timer.divAcc + m) / divPeriod s)
                + BitVec.ofNat 8 (((s.timer.divAcc + m) % divPeriod s + n) / divPeriod s) } } := rfl
    _ = divStep (m + n) s := by rw [hmod, BitVec.add_assoc, ← BitVec.ofNat_add, hdiv]; rfl

/-! ### TIMA -/

/-- Set TIMA's accumulator. -/
def State.withTimaAcc (a : Nat) (s : State) : State :=
  { s with timer := { s.timer with timaAcc := a } }

/-- A tick of TIMA does not look at the accumulator. -/
theorem timaTick_withTimaAcc (a : Nat) (s : State) :
    timaTick (s.withTimaAcc a) = (timaTick s).withTimaAcc a := by
  rw [timaTick, timaTick, apply_ite (State.withTimaAcc a)]
  rfl

theorem timaTicks_withTimaAcc (k a : Nat) (s : State) :
    timaTicks k (s.withTimaAcc a) = (timaTicks k s).withTimaAcc a := by
  induction k generalizing s with
  | zero => rfl
  | succ k ih => rw [timaTicks, timaTicks, timaTick_withTimaAcc, ih]

theorem timaTicks_timaTicks (j k : Nat) (s : State) :
    timaTicks k (timaTicks j s) = timaTicks (j + k) s := by
  induction j generalizing s with
  | zero => rw [Nat.zero_add]; rfl
  | succ j ih => rw [Nat.add_right_comm, timaTicks, timaTicks, ih]

/-- Ticks of TIMA leave TAC as it is. -/
theorem timaTicks_tac (k : Nat) (s : State) : (timaTicks k s).timer.tac = s.timer.tac := by
  induction k generalizing s with
  | zero => rfl
  | succ k ih =>
    rw [timaTicks, ih, timaTick]
    split <;> rfl

theorem timaStep_of_enabled {s : State} (n : Nat) (h : s.timer.tac.getLsbD 2 = true) :
    timaStep n s =
      timaTicks ((s.timer.timaAcc + n) / timaPeriod s.timer.tac)
        (s.withTimaAcc ((s.timer.timaAcc + n) % timaPeriod s.timer.tac)) := if_pos h

theorem timaStep_of_disabled {s : State} (n : Nat) (h : s.timer.tac.getLsbD 2 = false) :
    timaStep n s = s := if_neg (by rw [h]; decide)

theorem timaStep_timer {s : State} (n : Nat) (h : s.timer.tac.getLsbD 2 = true) :
    (timaStep n s).timer.tac = s.timer.tac
      ∧ (timaStep n s).timer.timaAcc = (s.timer.timaAcc + n) % timaPeriod s.timer.tac := by
  rw [timaStep_of_enabled n h, timaTicks_tac, (timaTicks_accumulators _ _).2]
  exact ⟨rfl, rfl⟩

/-- Two updates of TIMA are one (R451). -/
theorem timaStep_timaStep (s : State) (m n : Nat) :
    timaStep n (timaStep m s) = timaStep (m + n) s := by
  cases h : s.timer.tac.getLsbD 2 with
  | false => rw [timaStep_of_disabled m h, timaStep_of_disabled n h, timaStep_of_disabled _ h]
  | true =>
    obtain ⟨htac, hacc⟩ := timaStep_timer m h
    have hmod := Nat.mod_add_mod (s.timer.timaAcc + m) (timaPeriod s.timer.tac) n
    have hdiv := div_add_mod_add_div (s.timer.timaAcc + m) n (timaPeriod s.timer.tac)
    rw [Nat.add_assoc] at hmod hdiv
    rw [timaStep_of_enabled n (htac ▸ h), htac, hacc, hmod, timaStep_of_enabled m h,
      timaStep_of_enabled _ h, ← timaTicks_withTimaAcc, timaTicks_timaTicks, hdiv]
    rfl

/-- TIMA's period for each rate of TAC (R451). -/
theorem timaPeriod_eq_getD (tac : Byte) :
    timaPeriod tac = [1024, 16, 64, 256].getD (tac.toNat % 4) 0 := by
  have e : (tac.extractLsb' 0 2).toNat = tac.toNat % 4 := by simp
  have hlt : tac.toNat % 4 < 4 := Nat.mod_lt _ (by decide)
  rw [timaPeriod, e]
  interval_cases tac.toNat % 4 <;> rfl

end Sys2Proof.Machine
end

section
/-! SUPPORT. A line of the screen, column by column: what drawing one pixel, one sprite and all
sprites leaves there, and the order of the sorted list (60_exceptions.md R475 to R478). -/

namespace Sys2Proof.Machine

/-! ### One pixel -/

section
variable (s : State) (y : Nat) (p : Sprite) (row : List Shade) {i x : Nat}

/-- A pixel of a sprite leaves every other column. -/
theorem drawPixel_other (h : p.x.toNat + i ≠ x + 8) : (drawPixel s y p row i)[x]? = row[x]? := by
  rw [drawPixel]
  generalize (if p.attr.getLsbD 4 then s.lcd.obp1 else s.lcd.obp0) = palette
  dsimp only
  split_ifs with hoff
  case neg => exact List.getElem?_set_ne (by omega)
  all_goals rfl

/-- A pixel of a sprite draws at its column what the sprite gives there, if anything. -/
theorem drawPixel_eq (hi : i < 8) (h : p.x.toNat + i = x + 8) (hx : x < 160) :
    drawPixel s y p row i = (spriteShadeAt s y x p).elim row (row.set x) := by
  have hcol : p.x.toNat + i - 8 = x := by omega
  have hpix : x + 8 - p.x.toNat = i := by omega
  have hshown : ¬(p.x.toNat + i < 8 ∨ 168 ≤ p.x.toNat + i) := by omega
  have hcovered : ¬(x + 8 < p.x.toNat ∨ p.x.toNat + 8 ≤ x + 8) := by omega
  simp only [drawPixel, spriteShadeAt, hcol, hpix, if_neg hshown, if_neg hcovered]
  generalize (if p.attr.getLsbD 4 then s.lcd.obp1 else s.lcd.obp0) = palette
  split_ifs <;> rfl

theorem drawPixel_same (hi : i < 8) (h : p.x.toNat + i = x + 8) (hx : x < 160)
    (hlen : x < row.length) :
    (drawPixel s y p row i)[x]? = (spriteShadeAt s y x p).or row[x]? := by
  rw [drawPixel_eq s y p row hi h hx]
  cases spriteShadeAt s y x p with
  | none => rfl
  | some shade => exact List.getElem?_set_self hlen

/-! ### One sprite -/

/-- A sprite left of column `x`, or right of it, gives it nothing. -/
theorem spriteShadeAt_eq_none (h : x + 8 < p.x.toNat ∨ p.x.toNat + 8 ≤ x + 8) :
    spriteShadeAt s y x p = none := if_pos h

/-- What column `x` shows after the first `n` pixels of a sprite. -/
theorem drawPixel_range (hx : x < 160) (hlen : x < row.length) {n : Nat} (hn : n ≤ 8) :
    ((List.range n).foldl (drawPixel s y p) row)[x]? =
      if x + 8 < p.x.toNat + n then (spriteShadeAt s y x p).or row[x]? else row[x]? := by
  induction n with
  | zero =>
    split
    case isTrue h => rw [spriteShadeAt_eq_none _ _ _ (.inl h)]; rfl
    case isFalse => rfl
  | succ n ih =>
    rw [List.range_succ, List.foldl_append, List.foldl_cons, List.foldl_nil]
    by_cases h : p.x.toNat + n = x + 8
    · rw [drawPixel_same _ _ _ _ (by omega) h hx
        (by rwa [foldl_length (drawPixel_length s y p)]), ih (by omega), if_neg (by omega),
        if_pos (by omega)]
    · rw [drawPixel_other _ _ _ _ h, ih (by omega)]
      exact if_congr (by omega) rfl rfl

/-- What column `x` shows after a sprite: the sprite's shade, or what it showed before. -/
theorem drawSprite_getElem? (hx : x < 160) (hlen : x < row.length) :
    (drawSprite s y row p)[x]? = (spriteShadeAt s y x p).or row[x]? := by
  rw [drawSprite, drawPixel_range s y p row hx hlen (Nat.le_refl 8)]
  split
  case isTrue => rfl
  case isFalse h => rw [spriteShadeAt_eq_none _ _ _ (.inr (Nat.not_lt.mp h))]; rfl

theorem drawSprite_length : (drawSprite s y row p).length = row.length :=
  foldl_length (drawPixel_length s y p) _ row

end

/-! ### All sprites -/

/-- Drawn from the last to the first, the first sprite of a list that draws at column `x` is seen
(R477). -/
theorem foldl_drawSprite_getElem? (s : State) (y : Nat) (row : List Shade) (l : List Sprite)
    {x : Nat} (hx : x < 160) (hlen : x < row.length) :
    (l.reverse.foldl (drawSprite s y) row)[x]? =
      (l.findSome? (spriteShadeAt s y x)).or row[x]? := by
  induction l with
  | nil => rfl
  | cons p rest ih =>
    have hlen' : x < (rest.reverse.foldl (drawSprite s y) row).length := by
      rwa [foldl_length fun row p => drawSprite_length s y p row]
    rw [List.reverse_cons, List.foldl_append, List.foldl_cons, List.foldl_nil,
      drawSprite_getElem? _ _ _ _ hx hlen', ih, ← Option.or_assoc, List.findSome?_cons]
    cases spriteShadeAt s y x p <;> rfl

/-! ### The sorted list -/

theorem sortSprites_pairwise (l : List Sprite) :
    (sortSprites l).Pairwise fun p q => p.x.toNat ≤ q.x.toNat :=
  have : Std.Total fun p q : Sprite => p.x.toNat ≤ q.x.toNat := ⟨fun _ _ => Nat.le_total _ _⟩
  have : IsTrans Sprite fun p q => p.x.toNat ≤ q.x.toNat := ⟨fun _ _ _ => Nat.le_trans⟩
  List.pairwise_insertionSort _ l

/-- Sprites of equal X keep their order: in OAM order they are a sorted part of the list, so a part
of the sorted list, and the whole of its sprites of that X since there are as many (R477). -/
theorem sortSprites_filter (l : List Sprite) (n : Nat) :
    (sortSprites l).filter (fun p => p.x.toNat == n) = l.filter fun p => p.x.toNat == n := by
  have hperm : (sortSprites l).Perm l := List.perm_insertionSort _ l
  have hsorted : (l.filter fun p => p.x.toNat == n).Pairwise fun p q => p.x.toNat ≤ q.x.toNat :=
    List.pairwise_of_forall_mem_list fun p hp q hq => by
      rw [List.mem_filter, beq_iff_eq] at hp hq
      omega
  have hsub : (l.filter fun p => p.x.toNat == n).Sublist (sortSprites l) :=
    List.sublist_insertionSort hsorted List.filter_sublist
  have hpart := hsub.filter fun p => p.x.toNat == n
  rw [List.filter_filter] at hpart
  simp only [Bool.and_self] at hpart
  exact (hpart.eq_of_length (hperm.filter _).length_eq.symm).symm

/-- A line has at most ten sprites (R476). -/
theorem selectSprites_length (s : State) (y : Nat) : (selectSprites s y).length ≤ 10 := by
  rw [selectSprites]
  split
  · exact List.length_take_le ..
  · exact Nat.zero_le _

end Sys2Proof.Machine
end

section
/-! SUPPORT. The statements of the family 60_exceptions.md settled. -/

namespace Sys2Proof.Proofs

open Sys2Proof.Machine

/-- Settles O53: the line's three modes are `s`, `endMode s` and `endMode (endMode s)`, and each
clause is a field of one of them or of the end of the third. -/
theorem visibleLineTiming : Obligations.VisibleLineTiming := by
  intro s n w stat hon hmode hdot _
  have line : LineStart s := ⟨hon, hmode, hdot⟩
  refine ⟨fun hn => ?_, fun hle hlt => ?_, fun hle hlt => ?_, fun hn => ?_, fun hn => ?_,
    fun hle hlt => ?_, ?_⟩
  · rw [line.ppuStep_in_oamScan hn]
    exact ⟨hmode, rfl⟩
  · rw [line.ppuStep_in_vramAccess hle hlt]
    exact ⟨line.vramAccess_mode, rfl⟩
  · rw [line.ppuStep_in_hblank hle hlt]
    exact ⟨line.hblank_mode, rfl⟩
  · obtain hscan | hscan := Nat.lt_or_ge n (80 * w)
    · rw [line.ppuStep_in_oamScan hscan]; rfl
    obtain hdraw | hdraw := Nat.lt_or_ge n (252 * w)
    · rw [line.ppuStep_in_vramAccess hscan hdraw]; exact line.vramAccess_ly
    · rw [line.ppuStep_in_hblank hdraw hn]; exact line.hblank_ly
  · obtain hscan | hscan := Nat.lt_or_ge n (80 * w)
    · rw [line.ppuStep_in_oamScan hscan]; rfl
    · rw [line.ppuStep_in_vramAccess hscan hn]; exact endMode_irq_of_oamScan hmode
  · rw [line.ppuStep_in_hblank hle hlt]
    exact line.hblank_irq
  · obtain ⟨hly', hmode', hcoinc, hwy⟩ := endMode_ppu_of_hblank line.hblank_mode
    have hirq := endMode_irq_of_hblank line.hblank_mode
    simp only [line.hblank_ly, line.hblank_wyTrig, line.hblank_irq, endMode_lcd]
      at hly' hmode' hcoinc hwy hirq
    intro t
    have ht : t = endMode (endMode (endMode s)) := line.ppuStep_line
    rw [ht]
    exact ⟨hly', (endMode_dot _).trans line.hblank_dot, hmode', hcoinc, hwy, hirq⟩

/-- Settles O54: a line of VBlank is one mode, and its end is `endMode`. -/
theorem vBlankLineTiming : Obligations.VBlankLineTiming := by
  intro s n w stat hon hmode hdot
  have hwidth : modeWidth s = 456 * w := modeWidth_of_vblank hmode
  refine ⟨fun hn => ppuStep_of_lt_width hon hdot (by rwa [hwidth]), ?_⟩
  intro t
  have ht : t = endMode s := by rw [← ppuStep_modeWidth hon hdot, hwidth]
  rw [ht]
  refine ⟨(endMode_dot s).trans hdot, fun hly => ?_, fun hly => ?_⟩
  · rw [endMode_of_vblank_lt hmode hly, setLy_ppu, setLy_irq]
    exact ⟨rfl, hmode, rfl, rfl⟩
  · rw [endMode_of_vblank_last hmode hly, enterMode_ly, enterMode_mode, enterMode_winLine,
      enterMode_coinc, enterMode_oamScan_wyTrig, enterMode_oamScan_irq, setLy_irq, setLy_lcd,
      setLy_ppu]
    exact ⟨rfl, rfl, rfl, rfl, rfl, rfl⟩

/-- Settles O48: the three directions of a write to LCDC; the worked example is the end of a visible
line, which `visibleLineTiming` gives. -/
theorem lcdSwitch : Obligations.LcdSwitch := by
  intro s v t u
  have hwrite (w : Byte) : memWrite s 0xFF40 w = writeLcdc s w := rfl
  refine ⟨fun hs hv => ?_, fun hs hv => ?_, fun h => ?_, fun hoff n => ppuStep_of_off n hoff,
    fun hoff hds => ?_⟩
  · exact (hwrite v).trans (writeLcdc_of_off hs hv)
  · exact (hwrite v).trans (writeLcdc_of_on hs hv)
  · exact (hwrite v).trans (writeLcdc_of_same h)
  · rw [hwrite, writeLcdc_of_on hoff (by decide)]
    have line := visibleLineTiming
      { s with
        lcd := { s.lcd with lcdc := 0x91 }, ppu := s.ppu.switchOn s.lcd.lyc s.lcd.wy } 0
    simp only [hds] at line
    obtain ⟨-, -, -, -, -, -, hly, -, hmode, -⟩ :=
      line (show (0x91#8).getLsbD 7 = true by decide) rfl rfl (show (0#8).toNat < 144 by decide)
    exact ⟨hly, hmode⟩

/-- Settles O52: a law of each device. -/
theorem batchingIndependence : Obligations.BatchingIndependence := fun s m n =>
  ⟨ppuStep_ppuStep s m n, divStep_divStep s m n, timaStep_timaStep s m n⟩

/-- Settles O55: the counters by division with remainder, a tick and the frame by their two
branches. -/
theorem timersAndFrame : Obligations.TimersAndFrame := by
  intro s n period rate target
  have hrate : rate = timaPeriod s.timer.tac := (timaPeriod_eq_getD s.timer.tac).symm
  refine ⟨fun hpos => ⟨_, _, (Nat.div_add_mod' _ period).symm, Nat.mod_lt _ hpos, rfl⟩,
    fun hon => ?_, fun hoff => timaStep_of_disabled n hoff, rfl, fun _ => rfl, fun h => if_pos h,
    fun h => if_neg h, fun h => if_neg (Nat.not_le.mpr h), fun h => if_pos h⟩
  rw [hrate]
  exact ⟨_, _, (Nat.div_add_mod' _ _).symm, Nat.mod_lt _ (timaPeriod_bounds _).1,
    timaStep_of_enabled n hon⟩

/-- Settles O41: the step dispatches, the push stores the return address, and clearing the request
shows in IF only. -/
theorem interruptDispatch : Obligations.InterruptDispatch := by
  intro s k pend ret u hk hime hset hlow
  have hlowest : lowestBit (pendingSet s) = k := lowestBit_eq hk hset hlow
  have hdispatch : dispatchInterrupt s
      = finish (clearRequest (push16 u ret) k) (vectorOf k) dispatchCycles := by
    rw [dispatchInterrupt, hlowest]
    rfl
  refine ⟨push16 u ret, _, storesTwo_of_sameButRegs ?_,
    cpuStep_of_dispatch hime (ne_zero_of_getLsbD hset), ?_⟩
  · rw [push16_eq]; rfl
  rw [hdispatch]
  refine ⟨⟨rfl, rfl⟩, by simp [u], fun r _ => ?_, by simp [KeepsFlags, u], rfl, fun b hb => ?_⟩
  · exact (State.reg_push16 u ret r).trans rfl
  · rw [memRead_finish, memRead_clearRequest _ k hb]

/-- Settles O56: the fold over the reversed list shows the first sprite that draws
(`foldl_drawSprite_getElem?`), and the sort is stable. -/
theorem spritePriority : Obligations.SpritePriority := by
  intro s y x hx
  refine ⟨?_, sortSprites_pairwise _, sortSprites_filter _, selectSprites_length s y⟩
  have hback : ((List.range 160).map (backgroundShade s y))[x]? = some (backgroundShade s y x) := by
    rw [List.getElem?_map, List.getElem?_range hx, Option.map_some]
  rw [lineShades, foldl_drawSprite_getElem? s y _ _ hx (by simpa using hx), hback,
    Option.or_some]

end Sys2Proof.Proofs
end

section
/-! SUPPORT. Dump and load: which save states fit, and what a load of a dump gives
(70_reset_and_hazards.md R541, R542). -/

namespace Sys2Proof.Machine

/-! ### Which save states fit (R542) -/

theorem frameFits_iff (frame : List (List Shade)) :
    frameFits frame = true ↔ frame.length = 144 ∧ ∀ row ∈ frame, row.length = 160 := by
  simp [frameFits]

theorem SaveState.fits_iff (d : SaveState) (u : State) :
    d.fits u = true ↔
      d.lengths = u.cart.arrayLengths
        ∧ d.ppu.frame.length = 144 ∧ (∀ row ∈ d.ppu.frame, row.length = 160)
        ∧ Memory.wf d.arrays ∧ ∀ p ∈ d.arrays, u.cart.hasKey p.1 = true := by
  simp only [SaveState.fits, Bool.and_eq_true, decide_eq_true_eq, frameFits_iff, List.all_eq_true,
    and_assoc]

theorem load_of_fits {d : SaveState} {u : State} (h : d.fits u = true) :
    load d u = ⟨d.restore u, none⟩ := if_pos h

theorem load_of_not_fits {d : SaveState} {u : State} (h : d.fits u = false) :
    load d u = ⟨u, some .malformedSaveState⟩ := if_neg (Bool.eq_false_iff.mp h)

/-! ### The cartridge controller -/

/-- The lengths of the byte arrays depend on the cartridge's header only. -/
theorem Cart.arrayLengths_congr {c d : Cart} (h : d.header = c.header) :
    d.arrayLengths = c.arrayLengths := by
  cases c; cases d; cases h; rfl

/-- A load replaces all of a cartridge but its header's values. -/
theorem Cart.withController_congr {c d : Cart} (h : d.header = c.header) (k : Controller) :
    d.withController k = c.withController k := by
  cases c; cases d; cases h; rfl

/-- The RAM bank index, reduced where the mapper reduces it (20_memory.md R124, R129), is itself. -/
theorem CartOk.withController_ramBank {c : Cart} (h : CartOk c) :
    (c.withController c.controller).ramBank = c.ramBank := by
  obtain ⟨-, -, hram, -⟩ := h
  simp only [Cart.withController, Cart.controller]
  cases hm : c.mapper with
  | mapper3 => rfl
  | mapper0 | mapper1 | mapper5 => exact Nat.mod_eq_of_lt (hram (by simp [hm]))

/-- A cartridge with reduced bank indices (20_memory.md R129) is given back by its controller's
state. -/
theorem CartOk.withController_controller {c : Cart} (h : CartOk c) :
    c.withController c.controller = c := by
  have ⟨_, hlt, _⟩ := h
  have hrom : c.romBank % c.romBanks = c.romBank := Nat.mod_eq_of_lt hlt
  calc c.withController c.controller
      = { c with
          romBank := c.romBank % c.romBanks
          ramBank := (c.withController c.controller).ramBank } := rfl
    _ = c := by rw [hrom, h.withController_ramBank]

/-! ### A load of a dump (R541) -/

section
variable {s u : State} (hinv : Inv s) (h : u.cart.header = s.cart.header)
include hinv h

/-- The dump of a state that meets the invariant fits every machine with the same cartridge. -/
theorem dump_fits : (dump s).fits u = true := by
  obtain ⟨-, ⟨hwf, -, hkeys⟩, ⟨-, -, -, -, hframe, hrows⟩, -⟩ := hinv
  exact (SaveState.fits_iff _ _).mpr ⟨(Cart.arrayLengths_congr h).symm, hframe, hrows, hwf,
    fun p hp => (Cart.hasKey_congr h p.1).trans (hkeys p hp)⟩

/-- Restoring a dump gives back the dumped state, but for what belongs to the machine. -/
theorem restore_dump :
    (dump s).restore u =
      { s with
        params := u.params, rom := u.rom, out := u.out, tick := u.tick
        pad := { s.pad with buttons := u.pad.buttons } } := by
  obtain ⟨hok, -⟩ := hinv
  have hcart : u.cart.withController s.cart.controller = s.cart :=
    (Cart.withController_congr h _).trans hok.withController_controller
  simp only [SaveState.restore, dump, hcart]

end

end Sys2Proof.Machine
end

section
/-! SUPPORT. The statement of the family 70_reset_and_hazards.md on save states settled. -/

namespace Sys2Proof.Proofs

open Sys2Proof.Machine

/-- Settles O60: a dump fits a machine with the same cartridge and restores the dumped state, and a
load goes by the two branches of `load`. -/
theorem saveStateRoundTrip : Obligations.SaveStateRoundTrip := by
  refine fun s u => ⟨fun hinv hType hRom hRam h2K => ?_, fun d =>
    ⟨d.fits_iff u, load_of_fits, load_of_not_fits⟩⟩
  have hheader : u.cart.header = s.cart.header := by
    simp only [Cart.header, hType, hRom, hRam, h2K]
  rw [load_of_fits (dump_fits hinv hheader), restore_dump hinv hheader]

end Sys2Proof.Proofs
end
